-- ==== Sys2Proof/Word.lean ====
section
/-! DEFINITION. The word types of CORE: the fixed widths of 00_scope.md R8 and the registers' widths of 10_state.md
R20, each under the name the spec gives it. Every value is an unsigned binary number (R11). -/

namespace Sys2Proof

/-- UOP_W = 8: a micro-op word (R8, R80). -/
abbrev UopWord := BitVec 8
/-- UPC_W = 4: a micro-program address (R8, R27). -/
abbrev UAddr := BitVec 4
/-- The operand nibble of `LDF` and `LDD` (R82 (d)). -/
abbrev Nibble := BitVec 4
/-- A timer mask: bit 0 selects MT, bit 1 selects CT (R82 (b)). -/
abbrev TimerMask := BitVec 2
/-- CNT_W = 8: a tick counter (R8). -/
abbrev TickCount := BitVec 8
/-- OVF_W = 16: an overflow tally (R8), and a count of cadence overflows. -/
abbrev Tally := BitVec 16
/-- PC_W = 16: the pulse counter (R8). -/
abbrev PulseCount := BitVec 16
/-- FREQ_W = 32: a scaled frequency (R8). -/
abbrev Freq := BitVec 32
/-- CODE_W = 12: a DAC code (R8). -/
abbrev Code := BitVec 12
/-- DIN_W = 16: the DAC data-in register (R8). -/
abbrev DinWord := BitVec 16
/-- CAL_ENTRY_W = 48: a word of the calibration ROM (R8, R90). -/
abbrev CalWord := BitVec 48
/-- The level of a one-bit line: `true` is 1 (high), `false` is 0 (low). -/
abbrev Level := Bool

/-- TMOD = 256, the timer modulus (R8). -/
abbrev timerModulus : Nat := 256
/-- The number of words of `UPROG` (R8). -/
abbrev uprogSize : Nat := 16
/-- CAL_MAX = 16, the largest number of calibration entries (R8). -/
abbrev calMax : Nat := 16

end Sys2Proof
end

