-- ==== Sys2Proof/Config.lean ====
section
/-! DEFINITION. The open parameters of CORE (00_scope.md R9): what a build fixes and no step changes (10_state.md R38).
They are plain data, carried in State, so that a statement about every state is a statement about every
configuration. `THRESH_FN` is a function in the spec; it is held here in a form that any function can be written in
(assumption log 6). -/

namespace Sys2Proof

/-- One calibration entry: a breakpoint's scaled frequency F and its output code C (20_memory.md R62). -/
structure CalEntry where
  freq : Freq
  code : Code
deriving DecidableEq, Repr

/-- POL, the configured edge polarity of the pulse input (00_scope.md R9; 41_pulse_capture.md R121). -/
inductive Polarity where
  | rising
  | falling
deriving DecidableEq, Repr

/-- One piece of a threshold function: from the frequency `start` on, the threshold is `value`. -/
structure ThreshPiece where
  start : Freq
  value : Tally
deriving DecidableEq, Repr

/-- `THRESH_FN` as data (00_scope.md R9; 45_control_sequencer.md R194). -/
inductive ThreshFn where
  /-- The default form of R195, from `T_MIN`, `T_MAX` and `T_DIV`. -/
  | linearClamp
  /-- From each piece's start on that piece's value, a later piece of the list before an earlier one; `base` where no
  piece has started. -/
  | steps (base : Tally) (pieces : List ThreshPiece)
deriving DecidableEq, Repr

/-- The open parameters of 00_scope.md R9, but for `UPROG`, which stands in State beside them. -/
structure Params where
  /-- TICK_RATE, in Hz (R9). -/
  tickRate : Nat
  /-- PRECISION (R9). -/
  precision : Nat
  /-- `CAL`: the words of the calibration ROM, index 0 first; their number is `N_CAL` (R9; 30_encoding.md R90). -/
  cal : List CalWord
  /-- `THRESH_FN` (R9). -/
  thresh : ThreshFn
  /-- `T_MIN`, "a minimum window" (R9). -/
  tMin : Tally
  /-- `T_MAX`, "a maximum window" (R9). -/
  tMax : Tally
  /-- `T_DIV`, the divisor of the default form (R9). -/
  tDiv : Freq
  /-- `POL` (R9). -/
  pol : Polarity
  /-- `T_DAC`, the spacing of the DAC pin writes: no rule depends on it (70_reset_and_hazards.md R267;
  assumption log 10). -/
  tDac : Nat
deriving DecidableEq, Repr

/-- `KNUM` = TICK_RATE × PRECISION, formed in unbounded arithmetic and held in 32 bits (00_scope.md R9, R10 (a)). -/
abbrev Params.knum (p : Params) : Freq := BitVec.ofNat 32 (p.tickRate * p.precision)

/-- The example values of 00_scope.md R9: 11059000 Hz, precision 100, the table (0,0), (300,20), (1000,64), the default
threshold form with (10, 100, 1000), rising edges. The spec calls them examples and no defaults.
DESIGN CHOICE (assumption log 2): State.reset holds them, since a state must hold some configuration; unsafe. -/
def exampleParams : Params where
  tickRate := 11059000
  precision := 100
  cal := [0x000000000000#48, 0x0000012C0014#48, 0x000003E80040#48]
  thresh := .linearClamp
  tMin := 10
  tMax := 100
  tDiv := 1000
  pol := .rising
  tDac := 0

end Sys2Proof
end

