-- ==== Sys2Proof/Machine/Threshold.lean ====
section
/-! DEFINITION. The adaptive threshold, `THRESH_FN`, in both the forms it is held in (45_control_sequencer.md R194, R195;
assumption log 6). -/

namespace Sys2Proof.Machine

/-- The default form of `THRESH_FN` (45_control_sequencer.md R195). -/
def linearThreshold (tMin tMax : Tally) (tDiv f : Freq) : Tally :=
  let q := f.toNat / tDiv.toNat
  if tMax.toNat - tMin.toNat ≤ q then tMin else BitVec.ofNat 16 (tMax.toNat - q)

/-- The value of a threshold given by its pieces: that of the last piece in the list that starts at or below
`f`. -/
def steppedThreshold (base : Tally) (pieces : List ThreshPiece) (f : Freq) : Tally :=
  pieces.foldl (fun v q => if q.start ≤ f then q.value else v) base

/-- `THRESH_FN(f)` (45_control_sequencer.md R194; assumption log 6). -/
def threshold (p : Params) (f : Freq) : Tally :=
  match p.thresh with
  | .linearClamp => linearThreshold p.tMin p.tMax p.tDiv f
  | .steps base pieces => steppedThreshold base pieces f

end Sys2Proof.Machine
end

