-- ==== Sys2Proof/Syntax.lean ====
section
/-! DEFINITION. The micro-ops of the control sequencer (30_encoding.md R83), one constructor per row of
spec/opcode_table.json and in its order. An operand has exactly the width its encoding gives it (R82), so every term
is a micro-op that has an encoding. -/

namespace Sys2Proof

/-- A micro-op (R83). -/
inductive Instr where
  /-- `NOP`, R191. -/
  | nop
  /-- `INH`, R125. -/
  | inh
  /-- `ENA`, R126. -/
  | ena
  /-- `TSTOP m`, R103. -/
  | tstop (m : TimerMask)
  /-- `TRST m`, R104. -/
  | trst (m : TimerMask)
  /-- `TSTART m`, R105. -/
  | tstart (m : TimerMask)
  /-- `PCCLR`, R124. -/
  | pcclr
  /-- `EST`, R136. -/
  | est
  /-- `ITP`, R151. -/
  | itp
  /-- `DINIT`, R172. -/
  | dinit
  /-- `DWR`, R173. -/
  | dwr
  /-- `WAITC`, R193. -/
  | waitc
  /-- `JMP t`, R192. -/
  | jmp (t : UAddr)
  /-- `LDF n`, R196. -/
  | ldf (n : Nibble)
  /-- `LDD n`, R197. -/
  | ldd (n : Nibble)
deriving DecidableEq, Repr

end Sys2Proof
end

