-- ==== Sys2Proof/WellFormed.lean ====
section
/-! DEFINITION. What the spec calls well-formed: a legal micro-op word (30_encoding.md R84) and a configuration
(00_scope.md R10). A micro-op of `Instr` needs no check: its operands have the widths of their encodings. -/

namespace Sys2Proof

open Sys2Proof.Machine

/-- R84: a word is illegal iff (a) its op is 0xB, or (b) its op takes no operand and its arg is not 0, or (c) its op is
a timer micro-op and `arg[3:2]` is not 0. Every other word is legal. -/
def legalWord (w : UopWord) : Bool :=
  let op : BitVec 4 := w.extractLsb' 4 4
  let arg : BitVec 4 := w.extractLsb' 0 4
  !(op == 0xB#4
    || ([0x0#4, 0x1#4, 0x2#4, 0x6#4, 0x7#4, 0x8#4, 0x9#4, 0xA#4, 0xC#4].contains op && arg != 0#4)
    || ([0x3#4, 0x4#4, 0x5#4].contains op && arg.extractLsb' 2 2 != 0#2))

/-- R10 (a): TICK_RATE × PRECISION is at least 1 and fits 32 bits. -/
def Params.knumFits (p : Params) : Bool :=
  decide (1 ≤ p.tickRate * p.precision) && decide (p.tickRate * p.precision ≤ 2 ^ 32 - 1)

/-- R10 (b): N_CAL is at most 16. -/
def Params.calFits (p : Params) : Bool :=
  decide (p.cal.length ≤ calMax)

/-- P1 of 45_control_sequencer.md R194 at a frequency: the threshold lies between T_MIN and T_MAX. -/
def Params.boundedAt (p : Params) (f : Freq) : Bool :=
  decide (p.tMin ≤ threshold p f) && decide (threshold p f ≤ p.tMax)

/-- P2 of 45_control_sequencer.md R194 at two frequencies: the threshold does not rise from the lower to the higher. -/
def Params.nonIncreasingAt (p : Params) (f g : Freq) : Bool :=
  !decide (f ≤ g) || decide (threshold p g ≤ threshold p f)

/-- R10 (c), (d): the default form has T_DIV ≥ 1 and T_MIN ≤ T_MAX ≤ 65534, and so P1 and P2; a function given by its
pieces has P1 and P2. Such a function changes its value only at the pieces' starts, so frequency 0 and the starts are
the only ones to look at. -/
def Params.threshFits (p : Params) : Bool :=
  match p.thresh with
  | .linearClamp => decide (1 ≤ p.tDiv.toNat) && decide (p.tMin ≤ p.tMax) && decide (p.tMax.toNat ≤ 65534)
  | .steps _ pieces =>
    let points := 0 :: pieces.map ThreshPiece.start
    points.all p.boundedAt && points.all fun f => points.all fun g => p.nonIncreasingAt f g

/-- R10 (a) to (d): the configurations the model gives a meaning to. -/
def Params.wellFormed (p : Params) : Bool :=
  p.knumFits && p.calFits && p.threshFits

/-- R10 (e): every word of the micro-program is legal. A configuration that fails only this one is not refused: its
illegal words raise SeqFault when they are fetched (93_implementation_defined.md V5). -/
def uprogLegal (uprog : Vector UopWord uprogSize) : Bool :=
  uprog.toList.all legalWord

end Sys2Proof
end

