-- ==== Sys2Proof/Decode.lean ====
section
/-! DEFINITION. Decoding a micro-op word (30_encoding.md R80 to R84) and, from the same table, encoding a micro-op. -/

namespace Sys2Proof

/-- Why a word is illegal: the three cases of 30_encoding.md R84. -/
inductive IllegalWord where
  /-- R84 (a): the reserved opcode 0xB. -/
  | reservedOpcode
  /-- R84 (b): a micro-op without operand whose `arg` is not 0. -/
  | argNotZero
  /-- R84 (c): a timer micro-op whose `arg[3:2]` is not 0. -/
  | maskBitsNotZero
deriving DecidableEq, Repr

/-- What decoding a word answers: one legal micro-op with its operand, or illegal and why (R81). -/
inductive Decoded where
  | instr (i : Instr)
  | illegal (why : IllegalWord)
deriving DecidableEq, Repr

/-- `op = w[7:4]` (R81). -/
def opField (w : UopWord) : BitVec 4 := w.extractLsb' 4 4

/-- `arg = w[3:0]` (R81). -/
def argField (w : UopWord) : BitVec 4 := w.extractLsb' 0 4

/-- R82 (a), R84 (b): a micro-op without operand; its `arg` must be 0. -/
def decodeNone (i : Instr) (arg : BitVec 4) : Decoded :=
  if arg = 0#4 then .instr i else .illegal .argNotZero

/-- R82 (b), R84 (c): a micro-op with a timer mask `m = arg[1:0]`; `arg[3:2]` must be 0. -/
def decodeMask (f : TimerMask → Instr) (arg : BitVec 4) : Decoded :=
  if arg.extractLsb' 2 2 = 0#2 then .instr (f (arg.extractLsb' 0 2)) else .illegal .maskBitsNotZero

/-- Decoding (R81, R83): total, every word is one legal micro-op or illegal. -/
def decode (w : UopWord) : Decoded :=
  let arg := argField w
  match opField w with
  | 0x0#4 => decodeNone .nop arg
  | 0x1#4 => decodeNone .inh arg
  | 0x2#4 => decodeNone .ena arg
  | 0x3#4 => decodeMask .tstop arg
  | 0x4#4 => decodeMask .trst arg
  | 0x5#4 => decodeMask .tstart arg
  | 0x6#4 => decodeNone .pcclr arg
  | 0x7#4 => decodeNone .est arg
  | 0x8#4 => decodeNone .itp arg
  | 0x9#4 => decodeNone .dinit arg
  | 0xA#4 => decodeNone .dwr arg
  | 0xC#4 => decodeNone .waitc arg
  | 0xD#4 => .instr (.jmp arg)
  | 0xE#4 => .instr (.ldf arg)
  | 0xF#4 => .instr (.ldd arg)
  -- 0xB, the one value of `op` not named above (R85)
  | _ => .illegal .reservedOpcode

/-- The micro-op a word decodes to, if it is legal. -/
def Decoded.instr? : Decoded → Option Instr
  | .instr i => some i
  | .illegal _ => none

/-- A word from its two fields (R80). -/
def mkWord (op arg : BitVec 4) : UopWord := op ++ arg

/-- The word of a micro-op (R83). -/
def encode : Instr → UopWord
  | .nop => mkWord 0x0 0
  | .inh => mkWord 0x1 0
  | .ena => mkWord 0x2 0
  | .tstop m => mkWord 0x3 (0#2 ++ m)
  | .trst m => mkWord 0x4 (0#2 ++ m)
  | .tstart m => mkWord 0x5 (0#2 ++ m)
  | .pcclr => mkWord 0x6 0
  | .est => mkWord 0x7 0
  | .itp => mkWord 0x8 0
  | .dinit => mkWord 0x9 0
  | .dwr => mkWord 0xA 0
  | .waitc => mkWord 0xC 0
  | .jmp t => mkWord 0xD t
  | .ldf n => mkWord 0xE n
  | .ldd n => mkWord 0xF n

/-- The micro-op the decoder reads from the `nbits` low bits of `w`. A micro-op is one word of 8 bits (R80), so more
bits than that are no micro-op. -/
def decodeTableWord (nbits w : Nat) : Option Instr :=
  if nbits ≤ 8 then (decode (BitVec.ofNat 8 (w % 2 ^ nbits))).instr? else none

end Sys2Proof
end

