-- ==== Sys2Proof/Machine/Program.lean ====
section
/-! DEFINITION. The spec's own contents of the micro-program ROM: the canonical program, which is the default of the
parameter `UPROG` (92_eei_decisions.md D27), and its gated-start variant. -/

namespace Sys2Proof.Machine

/-- The canonical micro-program (45_control_sequencer.md R198): `DINIT`, `PCCLR`, `ENA`, `TRST MC`, `TSTART MC`,
`WAITC`, `INH`, `TSTOP MC`, `EST`, `ITP`, `DWR`, `JMP 1`, and four unused words that jump to themselves. -/
def canonicalProgram : Vector UopWord uprogSize :=
  #v[0x90, 0x60, 0x20, 0x43, 0x53, 0xC0, 0x10, 0x33, 0x70, 0x80, 0xA0, 0xD1, 0xDC, 0xDD, 0xDE, 0xDF]

/-- The gated-start variant (45_control_sequencer.md R203): word 4 is `TSTART C`. -/
def gatedStartProgram : Vector UopWord uprogSize :=
  #v[0x90, 0x60, 0x20, 0x43, 0x52, 0xC0, 0x10, 0x33, 0x70, 0x80, 0xA0, 0xD1, 0xDC, 0xDD, 0xDE, 0xDF]

end Sys2Proof.Machine
end

