-- ==== Sys2Proof/Machine/State.lean ====
section
/-! DEFINITION. The state of CORE: every register of 10_state.md R20, the output history, the parameters of
00_scope.md R9, and the schedule of the agents' steps still to come; the reasons a step can stop; the state after
reset. -/

namespace Sys2Proof.Machine

/-- A free-running overflow counter (40_timers.md R100): `X_CNT`, `X_OVF` and `X_RUN` of X ∈ {MT, CT}. -/
structure Timer where
  /-- `X_CNT`, the 8-bit tick counter. -/
  cnt : TickCount
  /-- `X_OVF`, the 16-bit overflow tally. -/
  ovf : Tally
  /-- `X_RUN`, the run flag. -/
  run : Bool
deriving DecidableEq, Repr

/-- The levels of the three DAC lines (10_state.md R32); also one entry of `TRACE` (44_dac_driver.md R171). -/
structure Lines where
  /-- `DCLK`. -/
  dclk : Level
  /-- `DDATA`. -/
  ddata : Level
  /-- `DLOAD`. -/
  dload : Level
deriving DecidableEq, Repr

/-- One of the three DAC lines, the argument of `PinWrite` (44_dac_driver.md R171). -/
inductive Pin where
  | dclk
  | ddata
  | dload
deriving DecidableEq, Repr

/-- What a clocked implementation sees at one rising edge of `clk` (60_exceptions.md R228): its four input ports, and
whether the sequencer completes a micro-op in this cycle, which no rule decides (70_reset_and_hazards.md R270). -/
structure PortSample where
  /-- `rst_n`, active low. -/
  rstN : Level
  /-- `pulse_in`. -/
  pulseIn : Level
  /-- `tick_m`. -/
  tickM : Level
  /-- `tick_c`. -/
  tickC : Level
  /-- The sequencer completes a micro-op in this cycle. -/
  seqDone : Bool
deriving DecidableEq, Repr

/-- A turn: which agent steps next (00_scope.md R7). DESIGN CHOICE (assumption log 3): the interleaving is data, a list
of turns in State; every list is admitted. -/
inductive Turn where
  /-- The control sequencer executes one micro-op (45_control_sequencer.md R190). -/
  | seq
  /-- A qualifying transition of the pulse input (41_pulse_capture.md R122, R123). -/
  | edge
  /-- A tick of the measurement tick stream (40_timers.md R101). -/
  | tickM
  /-- A tick of the cadence tick stream (40_timers.md R102). -/
  | tickC
  /-- Reset is asserted while `pulse_in` has the given level (70_reset_and_hazards.md R250; 10_state.md R40). -/
  | reset (pulseIn : Level)
  /-- The port-level reference samples its inputs (60_exceptions.md R228; assumption log 7). -/
  | sample (p : PortSample)
deriving DecidableEq, Repr

/-- The state of CORE. -/
structure State where
  /-- The Measurement Timer: `MT_CNT`, `MT_OVF`, `MT_RUN` (10_state.md R24, R28). -/
  mt : Timer
  /-- The Cadence Timer: `CT_CNT`, `CT_OVF`, `CT_RUN` (10_state.md R24, R28). -/
  ct : Timer
  /-- `PULSE_COUNT` (10_state.md R25). -/
  pulseCount : PulseCount
  /-- `SNAP_OVF` (10_state.md R26). -/
  snapOvf : Tally
  /-- `SNAP_TICKS` (10_state.md R26). -/
  snapTicks : TickCount
  /-- `INH`, the capture inhibit (10_state.md R29). -/
  inh : Bool
  /-- `FREQ` (10_state.md R21). -/
  freq : Freq
  /-- `DIN` (10_state.md R22). -/
  din : DinWord
  /-- `DCLK`, `DDATA`, `DLOAD` (10_state.md R32). -/
  lines : Lines
  /-- `DAC_OUT` (10_state.md R33). -/
  dacOut : Code
  /-- `SR`, the shift register (10_state.md R34; assumption log 9). -/
  sr : BitVec 12
  /-- `BITCNT`, the bit counter (10_state.md R34; assumption log 9). -/
  bitCnt : BitVec 4
  /-- `UPC`, the micro-program counter (10_state.md R27). -/
  upc : UAddr
  /-- `SEQ_FAULT` (10_state.md R30). -/
  seqFault : Bool
  /-- `PIN_PREV`, the edge detector's last sample (10_state.md R35). -/
  pinPrev : Level
  /-- `TRACE`, the output history, oldest entry first (10_state.md R38; 44_dac_driver.md R171; assumption log 14). -/
  trace : List Lines
  /-- `UPROG`, the micro-program ROM: a parameter no step changes (20_memory.md R61, R73; assumption log 1). -/
  uprog : Vector UopWord uprogSize
  /-- The other open parameters, which no step changes (00_scope.md R9; 10_state.md R38; assumption log 2). -/
  params : Params
  /-- The model's own field: the turns still to come, the next one first; when none is left it is the sequencer's turn
  (assumption log 3). -/
  schedule : List Turn
deriving DecidableEq, Repr

/-- Why the machine stops. -/
inductive Fault where
  /-- Raised by `step` when it is the sequencer's turn and `SEQ_FAULT` = 1: the SEQ agent then has no enabled step until
  RESET (45_control_sequencer.md R190, 60_exceptions.md R221). Safe: no admitted execution has this step
  (assumption log 5). -/
  | sequencerStuck
deriving DecidableEq, Repr

/-- Why the model gives no meaning. -/
inductive Refusal where
  /-- Raised by an arm of `exec` whose instruction has no meaning yet. Safe: it stops. -/
  | notModelled (mnemonic : String)
  /-- Raised by `step` when the parameters are not well-formed (00_scope.md R10 (a) to (d); 93_implementation_defined.md
  V4: such a configuration is to be refused). Safe: it stops. -/
  | illFormedConfiguration
deriving DecidableEq, Repr

/-- The state after reset: 10_state.md R40, with the canonical micro-program in `UPROG` (assumption log 1), the spec's
example parameters (assumption log 2), no turn scheduled (assumption log 3), and `pulse_in` low while reset was
asserted (assumption log 4). -/
def State.reset : State where
  mt := { cnt := 0, ovf := 0, run := false }
  ct := { cnt := 0, ovf := 0, run := false }
  pulseCount := 0
  snapOvf := 0
  snapTicks := 0
  inh := true
  freq := 0
  din := 0
  lines := { dclk := false, ddata := false, dload := true }
  dacOut := 0
  sr := 0
  bitCnt := 0
  upc := 0
  seqFault := false
  pinPrev := false
  trace := []
  uprog := canonicalProgram
  params := exampleParams
  schedule := []

end Sys2Proof.Machine
end

