-- ==== Sys2Proof/Machine/Ops.lean ====
section
/-! DEFINITION. The operations the micro-ops and events share: saturating increment, the micro-program counter, fetch,
the one exception, reset, and the pin write. -/

namespace Sys2Proof.Machine

/-- `sat_inc_N(v)`: v if v = 2^N − 1, else v + 1 (00_scope.md R12). -/
def satInc {n : Nat} (v : BitVec n) : BitVec n :=
  if v.toNat = 2 ^ n - 1 then v else BitVec.ofNat n (v.toNat + 1)

/-- The word of `UPROG` at an address (20_memory.md R61): every address holds a word. -/
def State.readUprog (s : State) (a : UAddr) : UopWord :=
  s.uprog[a.toNat]'a.isLt

/-- The word the sequencer fetches: `UPROG[UPC]` (45_control_sequencer.md R190). -/
def State.fetch (s : State) : UopWord :=
  s.readUprog s.upc

/-- `UPC <- (UPC + 1) mod 16` (10_state.md R27). -/
def State.advance (s : State) : State :=
  { s with upc := BitVec.ofNat 4 ((s.upc.toNat + 1) % 16) }

/-- Taking the one exception, SeqFault (60_exceptions.md R221): `SEQ_FAULT <- 1` and nothing else; `UPC` keeps the
address of the illegal word. There is no return from it: only RESET clears the flag (R227). -/
def State.raiseSeqFault (s : State) : State :=
  { s with seqFault := true }

/-- The RESET step, with `pulse_in` at the level `pulseIn` (70_reset_and_hazards.md R250): every register takes its
reset value (10_state.md R40) and `TRACE` is emptied. The ROM and the other parameters are no registers (R38), and the
schedule is the model's own: they stay (assumption log 8). -/
def State.applyReset (s : State) (pulseIn : Level) : State :=
  { State.reset with pinPrev := pulseIn, uprog := s.uprog, params := s.params, schedule := s.schedule }

/-- The lines after one line is set to a level (44_dac_driver.md R171). -/
def Lines.set (l : Lines) (p : Pin) (level : Level) : Lines :=
  match p with
  | .dclk => { l with dclk := level }
  | .ddata => { l with ddata := level }
  | .dload => { l with dload := level }

/-- `PinWrite(pin, level)` (44_dac_driver.md R171): the line takes the level, and the triple after the write is
appended to `TRACE`, whether or not the level changed. -/
def State.pinWrite (s : State) (p : Pin) (level : Level) : State :=
  { s with lines := s.lines.set p level, trace := s.trace ++ [s.lines.set p level] }

end Sys2Proof.Machine
end

