-- ==== Sys2Proof/Machine/Capture.lean ====
section
/-! DEFINITION. The pulse capture unit's micro-ops (41_pulse_capture.md): `PCCLR`, `INH`, `ENA`. -/

namespace Sys2Proof.Machine

/-- `PCCLR` (41_pulse_capture.md R124): the pulse count and the snapshot are cleared together. -/
def execPcclr (s : State) : Host.Outcome State Fault Refusal :=
  .next { s with pulseCount := 0, snapOvf := 0, snapTicks := 0 }.advance

/-- `INH` (41_pulse_capture.md R125). -/
def execInh (s : State) : Host.Outcome State Fault Refusal :=
  .next { s with inh := true }.advance

/-- `ENA` (41_pulse_capture.md R126). -/
def execEna (s : State) : Host.Outcome State Fault Refusal :=
  .next { s with inh := false }.advance

end Sys2Proof.Machine
end

