-- ==== Sys2Proof/Machine/Dac.lean ====
section
/-! DEFINITION. The serial DAC driver (44_dac_driver.md): `DINIT` and `DWR`. -/

namespace Sys2Proof.Machine

/-- `DINIT` (44_dac_driver.md R172): clock low, data low, load high, in this order. -/
def execDinit (s : State) : Host.Outcome State Fault Refusal :=
  .next (((s.pinWrite .dclk false).pinWrite .ddata false).pinWrite .dload true).advance

/-- One pass of the loop of `DWR` (44_dac_driver.md R173): clock low, data at the top bit of `SR`, clock high; then
`SR` shifts left and `BITCNT` counts down. -/
def State.shiftBit (s : State) : State :=
  let t := ((s.pinWrite .dclk false).pinWrite .ddata (s.sr.getLsbD 11)).pinWrite .dclk true
  { t with sr := BitVec.ofNat 12 (s.sr.toNat * 2), bitCnt := BitVec.ofNat 4 (s.bitCnt.toNat - 1) }

/-- `k` passes of the loop of `DWR`. -/
def State.shiftBits : Nat → State → State
  | 0, s => s
  | k + 1, s => State.shiftBits k s.shiftBit

/-- The load pulse of `DWR` (44_dac_driver.md R173; 30_encoding.md R88): clock low, load low, load high. -/
def State.loadPulse (s : State) : State :=
  ((s.pinWrite .dclk false).pinWrite .dload false).pinWrite .dload true

/-- `SR <- DIN[11:0]`, `BITCNT <- 12` (44_dac_driver.md R173). -/
def State.loadShifter (s : State) : State :=
  { s with sr := s.din.extractLsb' 0 12, bitCnt := 12 }

/-- "while BITCNT != 0": each pass takes 1 from `BITCNT`, so there are as many passes as `BITCNT` says. -/
def State.shiftOut (s : State) : State := State.shiftBits s.bitCnt.toNat s

/-- `DWR` (44_dac_driver.md R173): the shifter is loaded, shifted out, the load line pulsed; then
`DAC_OUT <- DIN[11:0]`. One atomic step (20_memory.md R68; assumption logs 9 and 12). -/
def execDwr (s : State) : Host.Outcome State Fault Refusal :=
  .next { s.loadShifter.shiftOut.loadPulse with dacOut := s.din.extractLsb' 0 12 }.advance

end Sys2Proof.Machine
end

