-- ==== Sys2Proof/Machine/Estimator.lean ====
section
/-! DEFINITION. The frequency estimator (42_frequency_estimator.md): `EST`. -/

namespace Sys2Proof.Machine

/-- The average period: elapsed ticks over the number of intervals, floor (42_frequency_estimator.md R136). Used only
with a pulse count of at least 2. -/
def averagePeriod (pulses elapsed : Nat) : Nat := elapsed / (pulses - 1)

/-- The value `EST` writes, from `KNUM`, the pulse count and the elapsed ticks (42_frequency_estimator.md R136): 0 for a
degenerate window (R137), the largest value for a zero average period (R138), else floor(KNUM / average period). -/
def estimate (knum : Freq) (pulses elapsed : Nat) : Freq :=
  if pulses ≤ 1 then 0
  else if averagePeriod pulses elapsed = 0 then 0xFFFFFFFF
  else BitVec.ofNat 32 (knum.toNat / averagePeriod pulses elapsed)

/-- Elapsed ticks of the snapshot: `SNAP_OVF * 256 + SNAP_TICKS` (42_frequency_estimator.md R136). -/
def State.snapElapsed (s : State) : Nat := s.snapOvf.toNat * timerModulus + s.snapTicks.toNat

/-- `EST` (42_frequency_estimator.md R136). -/
def execEst (s : State) : Host.Outcome State Fault Refusal :=
  .next { s with freq := estimate s.params.knum s.pulseCount.toNat s.snapElapsed }.advance

end Sys2Proof.Machine
end

