-- ==== Sys2Proof/Machine/Interpolator.lean ====
section
/-! DEFINITION. The calibration interpolator (43_interpolator.md): the calibration word, the table scan and `ITP`. -/

namespace Sys2Proof.Machine

/-- A calibration word read as an entry: F = bits 47:16, C = bits 11:0; bits 15:12 are ignored (30_encoding.md R90). -/
def calEntryOfWord (w : CalWord) : CalEntry where
  freq := w.extractLsb' 16 32
  code := w.extractLsb' 0 12

/-- The word of an entry, with bits 15:12 zero (30_encoding.md R90). -/
def calWordOfEntry (e : CalEntry) : CalWord := e.freq ++ 0#4 ++ e.code

/-- The calibration table `CAL[0]`, …, `CAL[N_CAL - 1]` (20_memory.md R62). -/
def calTable (p : Params) : List CalEntry := p.cal.map calEntryOfWord

/-- `Lerp` from entry `a` to entry `b` (43_interpolator.md R153, R154), in exact arithmetic: a rising segment adds the
floor of the quotient, a falling one subtracts it. Reached only with `a.freq < f < b.freq`. -/
def lerp (f : Freq) (a b : CalEntry) : Code :=
  let x := f.toNat - a.freq.toNat
  let span := b.freq.toNat - a.freq.toNat
  if a.code.toNat ≤ b.code.toNat then
    BitVec.ofNat 12 (a.code.toNat + x * (b.code.toNat - a.code.toNat) / span)
  else
    BitVec.ofNat 12 (a.code.toNat - x * (a.code.toNat - b.code.toNat) / span)

/-- Step 4 of `Interp` (43_interpolator.md R152): from entry `a` on, the first bracketing segment wins, with the exact
breakpoints tested first, the lower end before the upper (R155); step 5: 0 when no segment brackets (R156). -/
def scanSegments (f : Freq) (a : CalEntry) : List CalEntry → Code
  | [] => 0
  | b :: rest =>
    if a.freq ≤ f ∧ f ≤ b.freq then
      if f = a.freq then a.code
      else if f = b.freq then b.code
      else lerp f a b
    else scanSegments f b rest

/-- `Interp(f)` over a table (43_interpolator.md R152): empty table, ceiling, floor, scan, in this order. -/
def interp (table : List CalEntry) (f : Freq) : Code :=
  match table with
  | [] => 0
  | first :: rest =>
    if (rest.getLastD first).freq ≤ f then (rest.getLastD first).code
    else if f ≤ first.freq then first.code
    else scanSegments f first rest

/-- `ITP` (43_interpolator.md R151): `DIN <- zext_16(Interp(FREQ))`. -/
def execItp (s : State) : Host.Outcome State Fault Refusal :=
  .next { s with din := (interp (calTable s.params) s.freq).zeroExtend 16 }.advance

end Sys2Proof.Machine
end

