-- ==== Sys2Proof/Machine/Operands.lean ====
section
/-! DEFINITION. The readings of a micro-op's operand (30_encoding.md R82). -/

namespace Sys2Proof.Machine

/-- Mask bit 0 selects the Measurement Timer (30_encoding.md R82 (b)). -/
def selectsMT (m : TimerMask) : Bool := m.getLsbD 0

/-- Mask bit 1 selects the Cadence Timer (30_encoding.md R82 (b)). -/
def selectsCT (m : TimerMask) : Bool := m.getLsbD 1

/-- An operation applied to the timers a mask selects; the other timer keeps every register (40_timers.md R106). -/
def State.onTimers (s : State) (m : TimerMask) (f : Timer → Timer) : State :=
  { s with
    mt := if selectsMT m then f s.mt else s.mt
    ct := if selectsCT m then f s.ct else s.ct }

/-- A nibble shifted into the low end of a register of `n` bits: `((v << 4) | nibble) mod 2^n` (30_encoding.md R82 (d);
45_control_sequencer.md R196, R197). -/
def shiftInNibble {n : Nat} (v : BitVec n) (nibble : Nibble) : BitVec n :=
  BitVec.ofNat n (v.toNat * 16 + nibble.toNat)

end Sys2Proof.Machine
end

