-- ==== Sys2Proof/Machine/Sequencer.lean ====
section
/-! DEFINITION. The sequencer's own micro-ops (45_control_sequencer.md): `NOP`, `JMP`, `WAITC`, `LDF`, `LDD`. -/

namespace Sys2Proof.Machine

/-- The condition `WAITC` trips on: `CT_OVF > THRESH_FN(FREQ)`, strictly (45_control_sequencer.md R193). -/
def State.tripped (s : State) : Bool :=
  decide ((threshold s.params s.freq).toNat < s.ct.ovf.toNat)

/-- `NOP` (45_control_sequencer.md R191). -/
def execNop (s : State) : Host.Outcome State Fault Refusal :=
  .next s.advance

/-- `JMP t` (45_control_sequencer.md R192). -/
def execJmp (t : UAddr) (s : State) : Host.Outcome State Fault Refusal :=
  .next { s with upc := t }

/-- `WAITC` (45_control_sequencer.md R193): past it when tripped, else it stays. -/
def execWaitc (s : State) : Host.Outcome State Fault Refusal :=
  .next (if s.tripped then s.advance else s)

/-- `LDF n` (45_control_sequencer.md R196). -/
def execLdf (n : Nibble) (s : State) : Host.Outcome State Fault Refusal :=
  .next { s with freq := shiftInNibble s.freq n }.advance

/-- `LDD n` (45_control_sequencer.md R197). -/
def execLdd (n : Nibble) (s : State) : Host.Outcome State Fault Refusal :=
  .next { s with din := shiftInNibble s.din n }.advance

end Sys2Proof.Machine
end

