-- ==== Sys2Proof/Machine/Timers.lean ====
section
/-! DEFINITION. The free-running overflow counters (40_timers.md): the tick of a timer and the micro-ops `TSTOP`,
`TRST`, `TSTART`. -/

namespace Sys2Proof.Machine

/-- One tick offered to a timer (40_timers.md R101, R102): a running timer counts, and the tick that wraps the counter
also counts in the tally, which sticks at 65535 (R107); a stopped timer does not change. -/
def Timer.tick (t : Timer) : Timer :=
  if t.run then
    if t.cnt.toNat = 255 then { t with cnt := 0, ovf := satInc t.ovf }
    else { t with cnt := BitVec.ofNat 8 (t.cnt.toNat + 1) }
  else t

/-- `X_RUN <- 0` (40_timers.md R103). -/
def Timer.stop (t : Timer) : Timer := { t with run := false }

/-- `X_CNT <- 0 ; X_OVF <- 0` (40_timers.md R104). -/
def Timer.clear (t : Timer) : Timer := { t with cnt := 0, ovf := 0 }

/-- `X_RUN <- 1` (40_timers.md R105). -/
def Timer.start (t : Timer) : Timer := { t with run := true }

/-- The 24-bit quantity `{X_OVF, X_CNT}` (10_state.md R24). -/
def Timer.elapsed (t : Timer) : Nat := t.ovf.toNat * timerModulus + t.cnt.toNat

/-- `TSTOP m` (40_timers.md R103). -/
def execTstop (m : TimerMask) (s : State) : Host.Outcome State Fault Refusal :=
  .next (s.onTimers m Timer.stop).advance

/-- `TRST m` (40_timers.md R104). -/
def execTrst (m : TimerMask) (s : State) : Host.Outcome State Fault Refusal :=
  .next (s.onTimers m Timer.clear).advance

/-- `TSTART m` (40_timers.md R105). -/
def execTstart (m : TimerMask) (s : State) : Host.Outcome State Fault Refusal :=
  .next (s.onTimers m Timer.start).advance

end Sys2Proof.Machine
end

