-- ==== Sys2Proof/Machine/Dispatch.lean ====
section
/-! DEFINITION. The meaning of each micro-op: one arm per constructor (30_encoding.md R83). -/

namespace Sys2Proof.Machine

def exec (i : Instr) (s : State) : Host.Outcome State Fault Refusal :=
  match i with
  | .nop => Sys2Proof.Machine.execNop s
  | .inh => Sys2Proof.Machine.execInh s
  | .ena => Sys2Proof.Machine.execEna s
  | .tstop m => Sys2Proof.Machine.execTstop m s
  | .trst m => Sys2Proof.Machine.execTrst m s
  | .tstart m => Sys2Proof.Machine.execTstart m s
  | .pcclr => Sys2Proof.Machine.execPcclr s
  | .est => Sys2Proof.Machine.execEst s
  | .itp => Sys2Proof.Machine.execItp s
  | .dinit => Sys2Proof.Machine.execDinit s
  | .dwr => Sys2Proof.Machine.execDwr s
  | .waitc => Sys2Proof.Machine.execWaitc s
  | .jmp t => Sys2Proof.Machine.execJmp t s
  | .ldf n => Sys2Proof.Machine.execLdf n s
  | .ldd n => Sys2Proof.Machine.execLdd n s

end Sys2Proof.Machine
end

