-- ==== Sys2Proof/Machine/Events.lean ====
section
/-! DEFINITION. The asynchronous events (60_exceptions.md R222): EDGE, TICKM, TICKC, and the sampling of the ports by the
clocked reference. -/

namespace Sys2Proof.Machine

/-- Event TICKM (40_timers.md R101); `INH` does not gate it (R109). -/
def State.tickM (s : State) : State := { s with mt := s.mt.tick }

/-- Event TICKC (40_timers.md R102). -/
def State.tickC (s : State) : State := { s with ct := s.ct.tick }

/-- The action of a captured edge (41_pulse_capture.md R122): the snapshot takes the timer's position, the count goes up
and sticks at 65535, and the first pulse of a window starts the Measurement Timer. All reads are of the state before
the step. -/
def State.captureEdge (s : State) : State :=
  { s with
    snapOvf := s.mt.ovf
    snapTicks := s.mt.cnt
    pulseCount := satInc s.pulseCount
    mt := if s.pulseCount = 0 then s.mt.start else s.mt }

/-- Event EDGE: captured iff `INH` = 0 (41_pulse_capture.md R122), else no effect (R123). -/
def State.edge (s : State) : State :=
  if s.inh then s else s.captureEdge

/-- The edge detector: a transition of the sampled level in the configured direction (41_pulse_capture.md R121). -/
def qualifies (pol : Polarity) (prev now : Level) : Bool :=
  match pol with
  | .rising => prev != now && now
  | .falling => prev != now && !now

/-- What happens in one clock cycle with `rst_n` = 1, in the fixed order EDGE, TICKM, TICKC, SEQ (60_exceptions.md R228).
A faulted sequencer completes no micro-op (45_control_sequencer.md R190). -/
def State.cycleTurns (s : State) (p : PortSample) : List Turn :=
  (if qualifies s.params.pol s.pinPrev p.pulseIn then [.edge] else [])
    ++ (if p.tickM then [.tickM] else [])
    ++ (if p.tickC then [.tickC] else [])
    ++ (if p.seqDone && !s.seqFault then [.seq] else [])

/-- One sample of the ports by the clocked reference (60_exceptions.md R228): with `rst_n` = 0 it is RESET and nothing
else; otherwise `PIN_PREV` takes the new sample (41_pulse_capture.md R121) and the cycle's steps come next, in their
order (assumption log 7). -/
def State.samplePorts (s : State) (p : PortSample) : State :=
  if p.rstN then { s with pinPrev := p.pulseIn, schedule := s.cycleTurns p ++ s.schedule }
  else s.applyReset p.pulseIn

end Sys2Proof.Machine
end

