-- ==== Sys2Proof/Machine/Step.lean ====
section
/-! DEFINITION. One atomic step of the machine (00_scope.md R7, R14): the agent whose turn it is steps. -/

namespace Sys2Proof.Machine

/-- Whose turn it is: the head of the schedule, the sequencer when none is scheduled (assumption log 3). -/
def State.nextTurn (s : State) : Turn := s.schedule.headD .seq

/-- The state once the turn is taken from the schedule. -/
def State.takeTurn (s : State) : State := { s with schedule := s.schedule.tail }

/-- The SEQ agent's step (45_control_sequencer.md R190): fetch, decode, and the micro-op's rule, or SeqFault for an
illegal word (60_exceptions.md R221). With `SEQ_FAULT` = 1 it is not enabled (assumption log 5). -/
def seqStep (s : State) : Host.Outcome State Fault Refusal :=
  if s.seqFault then .fault .sequencerStuck
  else match decode s.fetch with
    | .instr i => exec i s
    | .illegal _ => .next s.raiseSeqFault

/-- The step of the agent that has the turn. -/
def turnStep (turn : Turn) (s : State) : Host.Outcome State Fault Refusal :=
  match turn with
  | .seq => seqStep s
  | .edge => .next s.edge
  | .tickM => .next s.tickM
  | .tickC => .next s.tickC
  | .reset pulseIn => .next (s.applyReset pulseIn)
  | .sample p => .next (s.samplePorts p)

/-- One step (00_scope.md R7). A configuration that is not well-formed is refused (00_scope.md R10; assumption
log 6). -/
def step (s : State) : Host.Outcome State Fault Refusal :=
  if s.params.wellFormed then turnStep s.nextTurn s.takeTurn else .refused .illFormedConfiguration

/-- `s` with the low 8 bits of the `nbits` low bits of `w` at the address `UPC` of `UPROG`, the sequencer not faulted,
and the sequencer to move next: the very next step runs that word (assumption log 1). -/
def State.withFetchWord (s : State) (nbits w : Nat) : State :=
  { s with
    uprog := s.uprog.set s.upc.toNat (BitVec.ofNat 8 (w % 2 ^ nbits)) s.upc.isLt
    seqFault := false
    schedule := match s.schedule with
      | [] => []
      | turn :: rest => .seq :: turn :: rest }

end Sys2Proof.Machine
end

