-- ==== Sys2Proof/Machine/Assembler.lean ====
section
/-! DEFINITION. The spec's assembler: source lines (30_encoding.md R86), pseudo-ops and their expansions (R87), and the
16 words of a micro-program. It writes `UPROG`; no step uses it. Details R86 leaves open: assumption log 13. -/

namespace Sys2Proof.Machine

/-- What a source line asks for: a micro-op, a jump to a label (R86), or a pseudo-op (R87). -/
inductive AsmOp where
  | op (i : Instr)
  | jmpLabel (name : List Char)
  | halt
  | trestart (m : TimerMask)
  | ldf32 (v : Freq)
  | ldd16 (v : DinWord)
  | cli
  | sei
deriving DecidableEq, Repr

/-- A source line (R86). -/
inductive AsmLine where
  | blank
  | label (name : List Char)
  | code (addr : Option UAddr) (op : AsmOp)
deriving DecidableEq, Repr

/-- `LDF32 v`: eight `LDF`, most significant nibble first (R87). -/
def ldf32Expansion (v : Freq) : List Instr :=
  [.ldf (v.extractLsb' 28 4), .ldf (v.extractLsb' 24 4), .ldf (v.extractLsb' 20 4), .ldf (v.extractLsb' 16 4),
   .ldf (v.extractLsb' 12 4), .ldf (v.extractLsb' 8 4), .ldf (v.extractLsb' 4 4), .ldf (v.extractLsb' 0 4)]

/-- `LDD16 v`: four `LDD`, most significant nibble first (R87). -/
def ldd16Expansion (v : DinWord) : List Instr :=
  [.ldd (v.extractLsb' 12 4), .ldd (v.extractLsb' 8 4), .ldd (v.extractLsb' 4 4), .ldd (v.extractLsb' 0 4)]

/-- The micro-ops an operation at address `here` stands for (R87), labels looked up by `find`; none for an unknown
label. -/
def AsmOp.expand (find : List Char → Option UAddr) (here : UAddr) : AsmOp → Option (List Instr)
  | .op i => some [i]
  | .jmpLabel name => (find name).map fun t => [.jmp t]
  | .halt => some [.jmp here]
  | .trestart m => some [.trst m, .tstart m]
  | .ldf32 v => some (ldf32Expansion v)
  | .ldd16 v => some (ldd16Expansion v)
  | .cli => some [.inh]
  | .sei => some [.ena]

/-- How many words an operation takes (R87). -/
def AsmOp.size : AsmOp → Nat
  | .trestart _ => 2
  | .ldf32 _ => 8
  | .ldd16 _ => 4
  | _ => 1

/-- The value of a hexadecimal digit 0..F (R86). -/
def hexDigit (c : Char) : Option Nat :=
  (["0", "1", "2", "3", "4", "5", "6", "7", "8", "9", "A", "B", "C", "D", "E", "F"].map String.toList).findIdx? (· == [c])

/-- The value of a list of hexadecimal digits, the first most significant. -/
def hexValue (cs : List Char) : Option Nat :=
  cs.foldl (fun v c => v.bind fun n => (hexDigit c).map fun d => n * 16 + d) (some 0)

/-- A nibble or an address: one hexadecimal digit (R86). -/
def parseNibble : List Char → Option Nibble
  | [c] => (hexDigit c).map (BitVec.ofNat 4)
  | _ => none

/-- A timer mask: `M`, `C`, `MC`, `0`, or the decimal number 0..3 (R86). -/
def parseMask (cs : List Char) : Option TimerMask :=
  if cs = "M".toList then some 1
  else if cs = "C".toList then some 2
  else if cs = "MC".toList then some 3
  else ([['0'], ['1'], ['2'], ['3']].findIdx? (· == cs)).map (BitVec.ofNat 2)

/-- A constant of `n` bits, written `0x` and hexadecimal digits (00_scope.md R11). -/
def parseConst (n : Nat) : List Char → Option (BitVec n)
  | '0' :: 'x' :: c :: cs => (hexValue (c :: cs)).bind fun v => if v < 2 ^ n then some (BitVec.ofNat n v) else none
  | _ => none

/-- The mnemonics without operand, the pseudo-ops among them (30_encoding.md R83, R87). -/
def plainOps : List (List Char × AsmOp) :=
  [("NOP".toList, .op .nop), ("INH".toList, .op .inh), ("ENA".toList, .op .ena), ("PCCLR".toList, .op .pcclr),
   ("EST".toList, .op .est), ("ITP".toList, .op .itp), ("DINIT".toList, .op .dinit), ("DWR".toList, .op .dwr),
   ("WAITC".toList, .op .waitc), ("HALT".toList, .halt), ("CLI".toList, .cli), ("SEI".toList, .sei)]

/-- One operation: a mnemonic and its operands (R86). -/
def parseOp : List (List Char) → Option AsmOp
  | [w] => plainOps.lookup w
  | [w, x] =>
    if w = "TSTOP".toList then (parseMask x).map fun m => .op (.tstop m)
    else if w = "TRST".toList then (parseMask x).map fun m => .op (.trst m)
    else if w = "TSTART".toList then (parseMask x).map fun m => .op (.tstart m)
    else if w = "TRESTART".toList then (parseMask x).map .trestart
    else if w = "LDF".toList then (parseNibble x).map fun n => .op (.ldf n)
    else if w = "LDD".toList then (parseNibble x).map fun n => .op (.ldd n)
    else if w = "LDF32".toList then (parseConst 32 x).map .ldf32
    else if w = "LDD16".toList then (parseConst 16 x).map .ldd16
    else if w = "JMP".toList then
      match parseNibble x with
      | some t => some (.op (.jmp t))
      | none => some (.jmpLabel x)
    else none
  | _ => none

/-- The words of a line, its comment cut off (R86). -/
def lineWords (line : List Char) : List (List Char) :=
  ((line.takeWhile (· != ';')).splitOnP fun c => c == ' ' || c == '\t').filter (· != [])

/-- A word that ends in a colon, without the colon. -/
def beforeColon (w : List Char) : Option (List Char) :=
  if w.getLast? = some ':' then some w.dropLast else none

/-- One source line: `addr: MNEMONIC [operand] ; comment`, or `name:` alone (R86). -/
def parseLine (line : List Char) : Option AsmLine :=
  match lineWords line with
  | [] => some .blank
  | w :: rest =>
    match beforeColon w, rest with
    | some name, [] => some (.label name)
    | some addr, _ => (parseNibble addr).bind fun a => (parseOp rest).map fun op => .code (some a) op
    | none, _ => (parseOp (w :: rest)).map fun op => .code none op

/-- The operations with their addresses: from 0 on, consecutive unless a line gives its address (R86). -/
def placeOps : Nat → List AsmLine → List (Nat × AsmOp)
  | _, [] => []
  | here, .blank :: rest => placeOps here rest
  | here, .label _ :: rest => placeOps here rest
  | here, .code none op :: rest => (here, op) :: placeOps (here + op.size) rest
  | _, .code (some a) op :: rest => (a.toNat, op) :: placeOps (a.toNat + op.size) rest

/-- The address of the first operation of some lines that begin at `here`. -/
def nextAddr (here : Nat) (lines : List AsmLine) : Nat :=
  match placeOps here lines with
  | [] => here
  | (a, _) :: _ => a

/-- The labels: each stands for the address of the next micro-op (R86). -/
def placeLabels : Nat → List AsmLine → List (List Char × Nat)
  | _, [] => []
  | here, .blank :: rest => placeLabels here rest
  | here, .label name :: rest => (name, nextAddr here rest) :: placeLabels here rest
  | here, .code none op :: rest => placeLabels (here + op.size) rest
  | _, .code (some a) op :: rest => placeLabels (a.toNat + op.size) rest

/-- The words at their addresses. -/
def placeWords (find : List Char → Option UAddr) (ops : List (Nat × AsmOp)) : Option (List (Nat × UopWord)) :=
  ops.foldr (fun p acc => acc.bind fun ws => (p.2.expand find (BitVec.ofNat 4 p.1)).map fun is =>
    (is.zipIdx p.1).map (fun q => (q.2, encode q.1)) ++ ws) (some [])

/-- A micro-program from its words: every address 0..15 must get exactly one (20_memory.md R60). -/
def buildUprog (words : List (Nat × UopWord)) : Option (Vector UopWord uprogSize) :=
  if (List.range uprogSize).all (fun a => (words.filter (·.1 == a)).length == 1) && words.all (·.1 < uprogSize) then
    some (Vector.ofFn fun a => (words.lookup a.val).getD 0)
  else none

/-- The assembler: source lines to the contents of `UPROG` (R86, R87).
DESIGN CHOICE (assumption log 13): a label defined on two lines stands for its first definition. -/
def assemble (source : List (List Char)) : Option (Vector UopWord uprogSize) :=
  (source.mapM parseLine).bind fun lines =>
    let labels := placeLabels 0 lines
    let find := fun name => (labels.lookup name).bind fun a => if a < 16 then some (BitVec.ofNat 4 a) else none
    (placeWords find (placeOps 0 lines)).bind buildUprog

end Sys2Proof.Machine
end

