-- ==== Sys2Proof/Machine/Flags.lean ====
section
/-! DEFINITION. CORE has no condition codes (10_state.md R31). Its status is the run flags, `INH` and `SEQ_FAULT`, which
are registers, and what is derived here: `CSTATE`, the output ports, and whether a state is halted. -/

namespace Sys2Proof.Machine

/-- The codes of `CSTATE` (30_encoding.md R91). -/
inductive CState where
  | idle
  | measuring
  | estimating
  | fault
deriving DecidableEq, Repr

/-- The number on port `cstate[1:0]` (30_encoding.md R91). -/
def CState.code : CState → BitVec 2
  | .idle => 0
  | .measuring => 1
  | .estimating => 2
  | .fault => 3

/-- `CSTATE` (10_state.md R36). -/
def State.cstate (s : State) : CState :=
  if s.seqFault then .fault
  else if s.inh then .estimating
  else if 1 ≤ s.pulseCount.toNat then .measuring
  else .idle

/-- The output ports (10_state.md R39). -/
structure OutputPorts where
  dacClk : Level
  dacData : Level
  dacLoad : Level
  cstate : BitVec 2
  seqFault : Level
deriving DecidableEq, Repr

/-- What CORE drives on its output ports in a state (10_state.md R39). -/
def State.outputs (s : State) : OutputPorts where
  dacClk := s.lines.dclk
  dacData := s.lines.ddata
  dacLoad := s.lines.dload
  cstate := s.cstate.code
  seqFault := s.seqFault

/-- A halted state: `SEQ_FAULT` = 0 and `UPROG[UPC]` is a `JMP` to its own address (45_control_sequencer.md R201). -/
def State.halted (s : State) : Bool :=
  !s.seqFault && decide (decode s.fetch = .instr (.jmp s.upc))

end Sys2Proof.Machine
end

