-- ==== Sys2Proof/Machine/Receiver.lean ====
section
/-! DEFINITION. Reading `TRACE` from outside (44_dac_driver.md): the reference receiver `Recv` (R180), the bits a
receiver samples (30_encoding.md R89), and the trace as the wires show it (R171). Observations: no step reads them. -/

namespace Sys2Proof.Machine

/-- The state of `Recv` (44_dac_driver.md R180): the bits shifted in, most recent last, and the output code, `none` while
it is unknown. -/
structure Receiver where
  rx : List Level
  out : Option Code
deriving DecidableEq, Repr

/-- `Recv` at the start (44_dac_driver.md R180). -/
def Receiver.initial : Receiver := { rx := [], out := none }

/-- A list of bits as a number, the first most significant. -/
def bitsToNat (bits : List Level) : Nat := bits.foldl (fun n b => 2 * n + b.toNat) 0

/-- What a load edge latches: the last 12 bits shifted in, unknown if there are fewer (44_dac_driver.md R180). -/
def latchedCode (rx : List Level) : Option Code :=
  if 12 ≤ rx.length then some (BitVec.ofNat 12 (bitsToNat (rx.drop (rx.length - 12)))) else none

/-- The bits after one pair of consecutive trace entries: a rising clock shifts the data line in. -/
def shiftedIn (prev now : Lines) (rx : List Level) : List Level :=
  if !prev.dclk && now.dclk then rx ++ [now.ddata] else rx

/-- `Recv` on one pair of consecutive trace entries: first the clock edge, then the load edge (44_dac_driver.md R180). -/
def Receiver.see (r : Receiver) (prev now : Lines) : Receiver where
  rx := shiftedIn prev now r.rx
  out := if !prev.dload && now.dload then latchedCode (shiftedIn prev now r.rx) else r.out

/-- `Recv` on the entries that follow the entry `prev`. -/
def Receiver.follow (r : Receiver) (prev : Lines) : List Lines → Receiver
  | [] => r
  | now :: rest => (r.see prev now).follow now rest

/-- `Recv` over a trace (44_dac_driver.md R180; assumption log 11): its pairs of consecutive entries, in order. -/
def recv : List Lines → Receiver
  | [] => Receiver.initial
  | first :: rest => Receiver.initial.follow first rest

/-- The levels of the data line at the rising edges of the clock line in the entries that follow `prev`
(30_encoding.md R89). -/
def sampledBits (prev : Lines) : List Lines → List Level
  | [] => []
  | now :: rest => (if !prev.dclk && now.dclk then [now.ddata] else []) ++ sampledBits now rest

/-- The entries that differ from the one before them, `prev` standing before the first: the wires show no more
(44_dac_driver.md R171). -/
def wireChanges (prev : Lines) : List Lines → List Lines
  | [] => []
  | now :: rest => (if now = prev then [] else [now]) ++ wireChanges now rest

end Sys2Proof.Machine
end

