-- ==== Sys2Proof/Safety.lean ====
section
/-! DEFINITION. The terms claims about CORE are made in: what the next step is, runs and what happens along them, and
the conditions a state of a safe run meets. -/

namespace Sys2Proof.Machine

/-- The micro-op the next step executes, if it is the sequencer's turn, the sequencer is not faulted and the word it
fetches is legal (45_control_sequencer.md R190). -/
def State.nextOp (s : State) : Option Instr :=
  if s.nextTurn = .seq ∧ s.seqFault = false then (decode s.fetch).instr? else none

/-- The next step is RESET, as an event or as a sample with `rst_n` = 0 (70_reset_and_hazards.md R250). -/
def State.resetsNext (s : State) : Bool :=
  match s.nextTurn with
  | .reset _ => true
  | .sample p => !p.rstN
  | _ => false

/-- The next step is an edge that is captured (41_pulse_capture.md R122). -/
def State.capturesNext (s : State) : Bool :=
  decide (s.nextTurn = .edge) && !s.inh

/-- The next step clears the pulse count: `PCCLR` or RESET. -/
def State.clearsCountNext (s : State) : Bool :=
  s.resetsNext || decide (s.nextOp = some .pcclr)

/-- The next step is a measurement tick that a running Measurement Timer counts (40_timers.md R101). -/
def State.countsMTNext (s : State) : Bool :=
  decide (s.nextTurn = .tickM) && s.mt.run

/-- The next step is a cadence tick that a running Cadence Timer counts (40_timers.md R102). -/
def State.countsCTNext (s : State) : Bool :=
  decide (s.nextTurn = .tickC) && s.ct.run

/-- The next step resets the Measurement Timer: RESET, or `TRST` with mask bit 0 (40_timers.md R104). -/
def State.clearsMTNext (s : State) : Bool :=
  s.resetsNext || decide (s.nextOp = some (.trst 1)) || decide (s.nextOp = some (.trst 3))

/-- The next step resets the Cadence Timer: RESET, or `TRST` with mask bit 1 (40_timers.md R104). -/
def State.clearsCTNext (s : State) : Bool :=
  s.resetsNext || decide (s.nextOp = some (.trst 2)) || decide (s.nextOp = some (.trst 3))

/-- The next step ends the inhibited stretch or clears what it protects: `ENA`, `PCCLR` or RESET (20_memory.md R71). -/
def State.endsInhibitNext (s : State) : Bool :=
  s.resetsNext || decide (s.nextOp = some .ena) || decide (s.nextOp = some .pcclr)

/-- `t` is the state after `k` steps from `s`, none of which faulted or was refused. -/
def Run (k : Nat) (s t : State) : Prop := Host.Core.run Sys2Proof.core k s = .next t

/-- How many of the first `k` steps from `s` are taken in a state where `p` holds. -/
def countSteps (p : State → Bool) : Nat → State → Nat
  | 0, _ => 0
  | k + 1, s =>
    match step s with
    | .next t => (p s).toNat + countSteps p k t
    | _ => 0

/-- None of the first `k` steps from `s` is taken in a state where `p` holds. -/
def neverSteps (p : State → Bool) : Nat → State → Bool
  | 0, _ => true
  | k + 1, s =>
    !p s && match step s with
      | .next t => neverSteps p k t
      | _ => true

/-- The last of the first `k` states from `s` in which `p` holds, if there is one. -/
def lastStep (p : State → Bool) : Nat → State → Option State
  | 0, _ => none
  | k + 1, s =>
    match step s with
    | .next t => (lastStep p k t).or (if p s then some s else none)
    | _ => none

/-- Micro-ops executed one after another, each seeing the state the one before left (70_reset_and_hazards.md R269). -/
def execAll : List Instr → State → Host.Outcome State Fault Refusal
  | [], s => .next s
  | i :: is, s =>
    match exec i s with
    | .next t => execAll is t
    | .fault r => .fault r
    | .refused r => .refused r

/-- The DAC driver is at rest, as it is in every reachable state (10_state.md R34; 44_dac_driver.md R178). -/
abbrev State.DacAtRest (s : State) : Prop :=
  s.sr = 0 ∧ s.bitCnt = 0 ∧ s.lines.dclk = false ∧ s.lines.dload = true

/-- Every word of the micro-program is legal (00_scope.md R10 (e)). -/
abbrev State.ProgramLegal (s : State) : Prop := uprogLegal s.uprog = true

/-- The levels the trace ends with are the lines' levels; an empty trace goes with the idle levels of reset. -/
abbrev State.TraceEndsAtLines (s : State) : Prop :=
  s.trace.getLastD { dclk := false, ddata := false, dload := true } = s.lines

/-- What the reference receiver last latched from the trace is what `DAC_OUT` records; it is unknown only as long as no
bit has been shifted in, so before the first frame (44_dac_driver.md R180, R181; 10_state.md R33). -/
abbrev State.ReceiverAgrees (s : State) : Prop :=
  (recv s.trace).rx = [] ∧ (recv s.trace).out = none ∨ (recv s.trace).out = some s.dacOut

/-- A state of a safe run: a configuration with a meaning, no SeqFault, the DAC driver at rest. -/
abbrev State.Safe (s : State) : Prop :=
  s.params.wellFormed = true ∧ s.seqFault = false ∧ s.DacAtRest

end Sys2Proof.Machine
end

