-- ==== Sys2Proof/Certificates/Slice0/Obligations.lean ====
section
/-! DEFINITION. The statements for the provers. Each says which rule of spec/ it formalises. A statement about a step
holds of every configuration, every schedule and every state that meets its hypotheses. -/

open Sys2Proof Sys2Proof.Machine

/-! ### Encoding -/

/-- R81, R83: a word decodes to a micro-op exactly if it is that micro-op's word, so decoding inverts encoding, no two
micro-ops share a word and no micro-op has two words. -/
def Obligations.DecodeAndEncodeAgree : Prop :=
  ∀ (i : Instr) (w : UopWord), decode w = .instr i ↔ encode i = w

/-- R84: the illegal words are those of its three cases. -/
def Obligations.IllegalWordsAreTheThreeCases : Prop :=
  ∀ w : UopWord, (∃ why, decode w = .illegal why) ↔
    (w.toNat / 16 = 0xB
      ∨ (w.toNat / 16 ∈ [0x0, 0x1, 0x2, 0x6, 0x7, 0x8, 0x9, 0xA, 0xC] ∧ w.toNat % 16 ≠ 0)
      ∨ (w.toNat / 16 ∈ [0x3, 0x4, 0x5] ∧ w.toNat % 16 / 4 ≠ 0))

/-- R83: one word of each row of the table, written out. -/
def Obligations.TableWordsDecode : Prop :=
  decode 0b00000000#8 = .instr .nop ∧ decode 0b00010000#8 = .instr .inh ∧ decode 0b00100000#8 = .instr .ena
    ∧ decode 0b00110001#8 = .instr (.tstop 1) ∧ decode 0b01000010#8 = .instr (.trst 2)
    ∧ decode 0b01010011#8 = .instr (.tstart 3) ∧ decode 0b01100000#8 = .instr .pcclr
    ∧ decode 0b01110000#8 = .instr .est ∧ decode 0b10000000#8 = .instr .itp ∧ decode 0b10010000#8 = .instr .dinit
    ∧ decode 0b10100000#8 = .instr .dwr ∧ decode 0b11000000#8 = .instr .waitc
    ∧ decode 0b11010001#8 = .instr (.jmp 1) ∧ decode 0b11101010#8 = .instr (.ldf 10)
    ∧ decode 0b11111100#8 = .instr (.ldd 12)

/-! ### The step -/

/-- R190: on the sequencer's turn the step is the decoded micro-op's rule, with the turn taken from the schedule, the
model's own field (assumption log 3). -/
def Obligations.StepRunsDecodedMicroOp : Prop :=
  ∀ (s : State) (i : Instr), s.params.wellFormed = true → s.nextTurn = .seq → s.seqFault = false →
    decode s.fetch = .instr i → step s = exec i { s with schedule := s.schedule.tail }

/-- R221, R190: an illegal word sets `SEQ_FAULT` and nothing else, the status port shows the fault, and the sequencer
then has no step. That a turn given to it is the fault `sequencerStuck` is the model's (assumption log 5). -/
def Obligations.IllegalWordRaisesSeqFault : Prop :=
  ∀ (s : State) (why : IllegalWord), s.params.wellFormed = true → s.nextTurn = .seq → s.seqFault = false →
    decode s.fetch = .illegal why →
    ∃ t, step s = .next t ∧ t = { s with seqFault := true, schedule := s.schedule.tail }
      ∧ t.outputs.cstate = 3 ∧ t.outputs.seqFault = true
      ∧ (t.nextTurn = .seq → step t = .fault .sequencerStuck)

/-- R190, R220, R224, R235: with a well-formed configuration a step stops only as the turn of a faulted sequencer; every
other agent, and the sequencer while it is not faulted, always has a next state. The spec gives the faulted sequencer no
step (R190); that a turn given to it answers the fault `sequencerStuck` is the model's (assumption log 5). -/
def Obligations.StepStopsOnlyForFaultedSequencer : Prop :=
  ∀ s : State, s.params.wellFormed = true →
    (s.nextTurn = .seq ∧ s.seqFault = true → step s = .fault .sequencerStuck)
      ∧ (¬(s.nextTurn = .seq ∧ s.seqFault = true) → ∃ t, step s = .next t)

/-- R10 (a) to (d), with P1 and P2 of R194: a step is refused exactly if the parameters are not well-formed, whichever
form the threshold function is held in. The refusal's name is the model's (assumption log 6). -/
def Obligations.IllFormedConfigurationIsRefused : Prop :=
  ∀ s : State,
    step s = .refused .illFormedConfiguration ↔
      ¬(1 ≤ s.params.tickRate * s.params.precision ∧ s.params.tickRate * s.params.precision ≤ 2 ^ 32 - 1
        ∧ s.params.cal.length ≤ 16
        ∧ (s.params.thresh = .linearClamp →
          1 ≤ s.params.tDiv.toNat ∧ s.params.tMin.toNat ≤ s.params.tMax.toNat ∧ s.params.tMax.toNat ≤ 65534)
        ∧ (∀ f, s.params.tMin.toNat ≤ (threshold s.params f).toNat
          ∧ (threshold s.params f).toNat ≤ s.params.tMax.toNat)
        ∧ ∀ f g : Freq, f.toNat ≤ g.toNat → (threshold s.params g).toNat ≤ (threshold s.params f).toNat)

/-- R220: every micro-op completes from every state. None writes the ROM (R73), another parameter (R38), `SEQ_FAULT`, which
only an illegal word and RESET write (R30, R221), or `PIN_PREV`, which only a sample of the pin and RESET write (R20,
R35). That none writes the schedule, the model's own field, is the model's choice (assumption log 3). -/
def Obligations.EveryMicroOpCompletes : Prop :=
  ∀ (i : Instr) (s : State), ∃ t, exec i s = .next t
    ∧ t.schedule = s.schedule ∧ t.params = s.params ∧ t.uprog = s.uprog
    ∧ t.seqFault = s.seqFault ∧ t.pinPrev = s.pinPrev

/-! ### The adaptive threshold -/

/-- R194: P1 and P2 hold of the threshold function of every well-formed configuration. -/
def Obligations.ThresholdIsBoundedAndNonIncreasing : Prop :=
  ∀ p : Params, p.wellFormed = true →
    (∀ f, p.tMin.toNat ≤ (threshold p f).toNat ∧ (threshold p f).toNat ≤ p.tMax.toNat)
      ∧ ∀ f g : Freq, f.toNat ≤ g.toNat → (threshold p g).toNat ≤ (threshold p f).toNat

/-- The model's choice (assumption log 6), for R194: every function that has P1 and P2 is the threshold function of
parameters that pass the check of R10 (d), so holding `THRESH_FN` as data leaves no function out. -/
def Obligations.EveryAdmittedThresholdHasData : Prop :=
  ∀ (g : Freq → Tally) (p : Params),
    (∀ f, p.tMin.toNat ≤ (g f).toNat ∧ (g f).toNat ≤ p.tMax.toNat) →
    (∀ f f' : Freq, f.toNat ≤ f'.toNat → (g f').toNat ≤ (g f).toNat) →
    ∃ base pieces, ({ p with thresh := .steps base pieces } : Params).threshFits = true
      ∧ ∀ f, threshold { p with thresh := .steps base pieces } f = g f

/-- R195: the default form, and its value T_MAX at zero flow. -/
def Obligations.DefaultThresholdForm : Prop :=
  ∀ p : Params, p.wellFormed = true → p.thresh = .linearClamp →
    (∀ f, (threshold p f).toNat =
      if p.tMax.toNat - p.tMin.toNat ≤ f.toNat / p.tDiv.toNat then p.tMin.toNat
      else p.tMax.toNat - f.toNat / p.tDiv.toNat)
      ∧ threshold p 0 = p.tMax

/-! ### Timers -/

/-- R101, R102: a tick moves the one timer it belongs to, and only while it runs; the tick that wraps the counter
counts in the tally, which sticks at 65535. -/
def Obligations.TickCountsInRunningTimer : Prop :=
  ∀ (s : State) (rest : List Turn), s.params.wellFormed = true →
    (s.schedule = .tickM :: rest → step s = .next { s with
      schedule := rest
      mt := {
        cnt := if s.mt.run then s.mt.cnt + 1 else s.mt.cnt
        ovf := if s.mt.run ∧ s.mt.cnt = 255 ∧ s.mt.ovf ≠ 65535 then s.mt.ovf + 1 else s.mt.ovf
        run := s.mt.run } })
      ∧ (s.schedule = .tickC :: rest → step s = .next { s with
        schedule := rest
        ct := {
          cnt := if s.ct.run then s.ct.cnt + 1 else s.ct.cnt
          ovf := if s.ct.run ∧ s.ct.cnt = 255 ∧ s.ct.ovf ≠ 65535 then s.ct.ovf + 1 else s.ct.ovf
          run := s.ct.run } })

/-- R110: along every run that starts with a timer at zero and does not reset it, the timer holds the number of ticks
taken while it ran, up to 16 777 215; beyond that the tally sticks and the counter keeps wrapping. -/
def Obligations.TimerHoldsElapsedTicks : Prop :=
  ∀ (k : Nat) (s t : State), Run k s t →
    (s.mt.ovf = 0 → s.mt.cnt = 0 → neverSteps State.clearsMTNext k s = true →
      (countSteps State.countsMTNext k s ≤ 16777215 →
        t.mt.ovf.toNat * 256 + t.mt.cnt.toNat = countSteps State.countsMTNext k s)
      ∧ (16777215 < countSteps State.countsMTNext k s →
        t.mt.ovf.toNat = 65535 ∧ t.mt.cnt.toNat = countSteps State.countsMTNext k s % 256))
      ∧ (s.ct.ovf = 0 → s.ct.cnt = 0 → neverSteps State.clearsCTNext k s = true →
        (countSteps State.countsCTNext k s ≤ 16777215 →
          t.ct.ovf.toNat * 256 + t.ct.cnt.toNat = countSteps State.countsCTNext k s)
        ∧ (16777215 < countSteps State.countsCTNext k s →
          t.ct.ovf.toNat = 65535 ∧ t.ct.cnt.toNat = countSteps State.countsCTNext k s % 256))

/-- R103: `TSTOP m` clears the run flags the mask selects, advances, and changes nothing else. -/
def Obligations.TstopStopsSelectedTimers : Prop :=
  ∀ (m : TimerMask) (s : State), exec (.tstop m) s = .next { s with
    mt := { s.mt with run := s.mt.run && !m.getLsbD 0 }
    ct := { s.ct with run := s.ct.run && !m.getLsbD 1 }
    upc := s.upc + 1 }

/-- R104: `TRST m` zeroes counter and tally of the selected timers, keeps the run flags, advances, and changes nothing
else. -/
def Obligations.TrstZeroesSelectedTimers : Prop :=
  ∀ (m : TimerMask) (s : State), exec (.trst m) s = .next { s with
    mt := {
      cnt := if m.getLsbD 0 then 0 else s.mt.cnt
      ovf := if m.getLsbD 0 then 0 else s.mt.ovf
      run := s.mt.run }
    ct := {
      cnt := if m.getLsbD 1 then 0 else s.ct.cnt
      ovf := if m.getLsbD 1 then 0 else s.ct.ovf
      run := s.ct.run }
    upc := s.upc + 1 }

/-- R105: `TSTART m` sets the run flags the mask selects, advances, and changes nothing else. -/
def Obligations.TstartStartsSelectedTimers : Prop :=
  ∀ (m : TimerMask) (s : State), exec (.tstart m) s = .next { s with
    mt := { s.mt with run := s.mt.run || m.getLsbD 0 }
    ct := { s.ct with run := s.ct.run || m.getLsbD 1 }
    upc := s.upc + 1 }

/-- R108: only `TSTOP` and RESET clear a run flag; only `TSTART` sets one, but for the first captured edge of a window,
which sets `MT_RUN`. -/
def Obligations.RunFlagsChangeOnlyByTheirCauses : Prop :=
  ∀ s t : State, step s = .next t →
    (s.mt.run = true → t.mt.run = false →
      s.resetsNext = true ∨ s.nextOp = some (.tstop 1) ∨ s.nextOp = some (.tstop 3))
    ∧ (s.ct.run = true → t.ct.run = false →
      s.resetsNext = true ∨ s.nextOp = some (.tstop 2) ∨ s.nextOp = some (.tstop 3))
    ∧ (s.mt.run = false → t.mt.run = true →
      s.nextOp = some (.tstart 1) ∨ s.nextOp = some (.tstart 3) ∨ (s.capturesNext = true ∧ s.pulseCount = 0))
    ∧ (s.ct.run = false → t.ct.run = true →
      s.nextOp = some (.tstart 2) ∨ s.nextOp = some (.tstart 3))

/-- R100: the timers are independent, so a measurement tick and a cadence tick may change places. -/
def Obligations.TicksOfTheTwoTimersCommute : Prop :=
  ∀ (s t : State) (rest : List Turn),
    Run 2 { s with schedule := .tickM :: .tickC :: rest } t ↔ Run 2 { s with schedule := .tickC :: .tickM :: rest } t

/-! ### Pulse capture -/

/-- R122, R123: an edge is captured iff `INH` = 0. -/
def Obligations.EdgeIsCapturedUnlessInhibited : Prop :=
  ∀ (s : State) (rest : List Turn), s.params.wellFormed = true → s.schedule = .edge :: rest →
    (s.inh = true → step s = .next { s with schedule := rest })
      ∧ (s.inh = false → step s = .next { s with
        schedule := rest
        snapOvf := s.mt.ovf
        snapTicks := s.mt.cnt
        pulseCount := if s.pulseCount = 65535 then 65535 else s.pulseCount + 1
        mt := { s.mt with run := s.mt.run || s.pulseCount == 0 } })

/-- R124: `PCCLR` clears the pulse count and the snapshot, advances, and changes nothing else. -/
def Obligations.PcclrClearsCountAndSnapshot : Prop :=
  ∀ s : State, exec .pcclr s = .next { s with pulseCount := 0, snapOvf := 0, snapTicks := 0, upc := s.upc + 1 }

/-- R125: `INH` sets the inhibit, advances, and changes nothing else; with `INH` = 1 only `UPC` changes. -/
def Obligations.InhSetsTheInhibit : Prop :=
  ∀ s : State, exec .inh s = .next { s with inh := true, upc := s.upc + 1 }
    ∧ (s.inh = true → exec .inh s = .next { s with upc := s.upc + 1 })

/-- R126: `ENA` clears the inhibit, advances, and changes nothing else: no edge is replayed. -/
def Obligations.EnaClearsTheInhibit : Prop :=
  ∀ s : State, exec .ena s = .next { s with inh := false, upc := s.upc + 1 }
    ∧ (s.inh = false → exec .ena s = .next { s with upc := s.upc + 1 })

/-- R127: along every run without `PCCLR` and RESET the pulse count goes up by the number of captured edges and sticks
at 65535 (from 0, the count right after a `PCCLR`, it is the smaller of that number and 65535). -/
def Obligations.PulseCountIsCapturedEdges : Prop :=
  ∀ (k : Nat) (s t : State), Run k s t → neverSteps State.clearsCountNext k s = true →
    t.pulseCount.toNat = min (s.pulseCount.toNat + countSteps State.capturesNext k s) 65535

/-- R128: along every run without `PCCLR` and RESET the snapshot is the Measurement Timer's position just before the
most recent captured edge; with no captured edge it stays. -/
def Obligations.SnapshotIsTimerAtLastCapturedEdge : Prop :=
  ∀ (k : Nat) (s t : State), Run k s t → neverSteps State.clearsCountNext k s = true →
    (∀ u, lastStep State.capturesNext k s = some u → t.snapOvf = u.mt.ovf ∧ t.snapTicks = u.mt.cnt)
      ∧ (lastStep State.capturesNext k s = none → t.snapOvf = s.snapOvf ∧ t.snapTicks = s.snapTicks)

/-- R71: from `INH` = 1 on, along every run without `ENA`, `PCCLR` and RESET, the pulse count and the snapshot keep
their values, whatever edges and ticks occur. -/
def Obligations.InhibitFreezesTheCapture : Prop :=
  ∀ (k : Nat) (s t : State), Run k s t → s.inh = true → neverSteps State.endsInhibitNext k s = true →
    t.inh = true ∧ t.pulseCount = s.pulseCount ∧ t.snapOvf = s.snapOvf ∧ t.snapTicks = s.snapTicks

/-! ### The clocked reference -/

/-- R121, R228: a sample with `rst_n` = 1 updates `PIN_PREV` and puts the cycle's steps next in the order EDGE, TICKM,
TICKC, SEQ, EDGE only for a transition in the configured direction. Holding them as scheduled turns is the model's
choice (assumption log 7). -/
def Obligations.SampleOrdersTheCycle : Prop :=
  ∀ (s : State) (p : PortSample) (rest : List Turn), s.params.wellFormed = true → s.schedule = .sample p :: rest →
    p.rstN = true →
    step s = .next { s with
      pinPrev := p.pulseIn
      schedule :=
        (if s.pinPrev ≠ p.pulseIn ∧ (p.pulseIn = true ↔ s.params.pol = .rising) then [.edge] else [])
          ++ (if p.tickM = true then [.tickM] else []) ++ (if p.tickC = true then [.tickC] else [])
          ++ (if p.seqDone = true ∧ s.seqFault = false then [.seq] else []) ++ rest }

/-- R228: in a cycle with an edge, both ticks and a micro-op, the edge latches the timer as it stood before the tick,
the tick counts in a timer the first pulse has just started, and the micro-op sees all three. The rising polarity and
an enabled capture are the case stated; the cycle takes five of the model's steps (assumption log 7). -/
def Obligations.CycleRunsEdgeTicksThenMicroOp : Prop :=
  ∀ (s : State) (i : Instr) (rest : List Turn), s.params.wellFormed = true → s.params.pol = .rising →
    s.pinPrev = false → s.inh = false → s.seqFault = false → decode s.fetch = .instr i →
    s.schedule = .sample { rstN := true, pulseIn := true, tickM := true, tickC := true, seqDone := true } :: rest →
    Host.Core.run Sys2Proof.core 5 s = exec i { s with
      pinPrev := true
      schedule := rest
      snapOvf := s.mt.ovf
      snapTicks := s.mt.cnt
      pulseCount := satInc s.pulseCount
      mt := ({ s.mt with run := s.mt.run || s.pulseCount == 0 } : Timer).tick
      ct := s.ct.tick }

/-! ### Frequency estimator -/

/-- R136, R137: what `EST` writes; with a well-formed configuration `KNUM` is the full product TICK_RATE × PRECISION and
the quotient fits `FREQ`. -/
def Obligations.EstWritesTheEstimate : Prop :=
  ∀ s : State, ∃ t, exec .est s = .next t ∧ t = { s with freq := t.freq, upc := s.upc + 1 }
    ∧ (s.pulseCount.toNat ≤ 1 → t.freq = 0)
    ∧ (2 ≤ s.pulseCount.toNat →
      (s.snapOvf.toNat * 256 + s.snapTicks.toNat) / (s.pulseCount.toNat - 1) = 0 → t.freq = 0xFFFFFFFF)
    ∧ (s.params.wellFormed = true → 2 ≤ s.pulseCount.toNat →
      (s.snapOvf.toNat * 256 + s.snapTicks.toNat) / (s.pulseCount.toNat - 1) ≠ 0 →
      t.freq.toNat = s.params.tickRate * s.params.precision
        / ((s.snapOvf.toNat * 256 + s.snapTicks.toNat) / (s.pulseCount.toNat - 1)))

/-- R138, R152: with at least two pulses and fewer elapsed ticks than intervals `EST` writes the largest value, which
`ITP` maps to the ceiling code of every table that has an entry. -/
def Obligations.ZeroPeriodGivesTheCeiling : Prop :=
  ∀ s : State, 2 ≤ s.pulseCount.toNat → s.snapOvf.toNat * 256 + s.snapTicks.toNat < s.pulseCount.toNat - 1 →
    ∃ t u, exec .est s = .next t ∧ t.freq = 0xFFFFFFFF ∧ exec .itp t = .next u
      ∧ ∀ e, (calTable s.params).getLast? = some e → u.din = e.code.zeroExtend 16

/-- R140: the estimate does not go up with the elapsed ticks and does not go down with the pulse count. -/
def Obligations.EstimateIsMonotone : Prop :=
  ∀ knum : Freq,
    (∀ p e e', 2 ≤ p → e ≤ e' → (estimate knum p e').toNat ≤ (estimate knum p e).toNat)
      ∧ ∀ p p' e, p ≤ p' → (estimate knum p e).toNat ≤ (estimate knum p' e).toNat

/-! ### Calibration interpolator -/

/-- R90: F is bits 47:16 of a calibration word and C bits 11:0; bits 15:12 take no part, and an entry's own word gives
it back. -/
def Obligations.CalibrationWordLayout : Prop :=
  (∀ w : CalWord, (calEntryOfWord w).freq.toNat = w.toNat / 2 ^ 16 ∧ (calEntryOfWord w).code.toNat = w.toNat % 2 ^ 12)
    ∧ (∀ e : CalEntry, calEntryOfWord (calWordOfEntry e) = e ∧ (calWordOfEntry e).toNat / 2 ^ 12 % 16 = 0)

/-- R151: `ITP` writes `DIN` with the interpolated code, its upper four bits 0, advances, and changes nothing else. -/
def Obligations.ItpWritesTheCode : Prop :=
  ∀ s : State, exec .itp s = .next { s with
      din := 0#4 ++ interp (s.params.cal.map calEntryOfWord) s.freq
      upc := s.upc + 1 }

/-- R152, R153: the value of `Interp` by the rule's tests in their order: empty table, ceiling, floor, and in the first
bracketing segment the upper end, the linear value in exact arithmetic. The lower end of that segment always lies
strictly below the frequency, so its test (4a) never succeeds. -/
def Obligations.InterpFollowsTheRule : Prop :=
  ∀ (table : List CalEntry) (f : Freq),
    (table = [] → interp table f = 0)
    ∧ ∀ first last, table.head? = some first → table.getLast? = some last →
      (last.freq.toNat ≤ f.toNat → interp table f = last.code)
      ∧ (f.toNat < last.freq.toNat → f.toNat ≤ first.freq.toNat → interp table f = first.code)
      ∧ (first.freq.toNat < f.toNat → f.toNat < last.freq.toNat →
        ∀ (i : Nat) (a b : CalEntry), table[i]? = some a → table[i + 1]? = some b →
          a.freq.toNat ≤ f.toNat → f.toNat ≤ b.freq.toNat →
          (∀ (j : Nat) (c d : CalEntry), j < i → table[j]? = some c → table[j + 1]? = some d →
            ¬(c.freq.toNat ≤ f.toNat ∧ f.toNat ≤ d.freq.toNat)) →
          a.freq.toNat < f.toNat
          ∧ (f = b.freq → interp table f = b.code)
          ∧ (f.toNat < b.freq.toNat → a.code.toNat ≤ b.code.toNat →
            (interp table f).toNat = a.code.toNat
              + (f.toNat - a.freq.toNat) * (b.code.toNat - a.code.toNat) / (b.freq.toNat - a.freq.toNat))
          ∧ (f.toNat < b.freq.toNat → b.code.toNat < a.code.toNat →
            (interp table f).toNat = a.code.toNat
              - (f.toNat - a.freq.toNat) * (a.code.toNat - b.code.toNat) / (b.freq.toNat - a.freq.toNat)))

/-- R156, R159: between the first and the last breakpoint some segment brackets the frequency, whatever the table, and
the result lies between that segment's two codes: the fallback is never reached. -/
def Obligations.InterpLiesInABracketingSegment : Prop :=
  ∀ (table : List CalEntry) (f : Freq) (first last : CalEntry), table.head? = some first →
    table.getLast? = some last → first.freq.toNat < f.toNat → f.toNat < last.freq.toNat →
    ∃ (i : Nat) (a b : CalEntry), table[i]? = some a ∧ table[i + 1]? = some b
      ∧ a.freq.toNat ≤ f.toNat ∧ f.toNat ≤ b.freq.toNat
      ∧ min a.code.toNat b.code.toNat ≤ (interp table f).toNat
      ∧ (interp table f).toNat ≤ max a.code.toNat b.code.toNat

/-- R160 (c): over a table whose frequencies and codes do not fall, the output does not fall as the frequency rises. -/
def Obligations.InterpIsMonotone : Prop :=
  ∀ table : List CalEntry,
    table.Pairwise (fun a b => a.freq.toNat ≤ b.freq.toNat ∧ a.code.toNat ≤ b.code.toNat) →
    ∀ f f' : Freq, f.toNat ≤ f'.toNat → (interp table f).toNat ≤ (interp table f').toNat

/-- R160 (b), R155: over a well-ordered table a breakpoint's frequency gives its code exactly, for the last entry and
for every entry below the ceiling that is the first of its frequency. -/
def Obligations.BreakpointsRoundTrip : Prop :=
  ∀ (table : List CalEntry) (k : Nat) (e last : CalEntry),
    table.Pairwise (fun a b => a.freq.toNat ≤ b.freq.toNat) → table[k]? = some e → table.getLast? = some last →
    (k + 1 = table.length
      ∨ (e.freq.toNat < last.freq.toNat
        ∧ ∀ (j : Nat) (c : CalEntry), j < k → table[j]? = some c → c.freq ≠ e.freq)) →
    interp table e.freq = e.code

/-! ### Serial DAC driver -/

/-- R172: `DINIT` writes the three idle levels in order, appends three entries, advances, and changes nothing else. -/
def Obligations.DinitDrivesIdleLevels : Prop :=
  ∀ s : State, exec .dinit s = .next { s with
    lines := { dclk := false, ddata := false, dload := true }
    trace := s.trace ++
      [{ dclk := false, ddata := s.lines.ddata, dload := s.lines.dload },
       { dclk := false, ddata := false, dload := s.lines.dload },
       { dclk := false, ddata := false, dload := true }]
    upc := s.upc + 1 }

/-- R173, R175: what one `DWR` leaves, with the 39 appended entries in closed form: bit cell k carries `DIN[11 - k]`
after a clock-low entry that still shows the previous bit; then the load pulse. -/
def Obligations.DwrSendsTheFrame : Prop :=
  ∀ s : State, exec .dwr s = .next { s with
    lines := { dclk := false, ddata := s.din.getLsbD 0, dload := true }
    trace := s.trace ++
      ((List.range 12).flatMap fun k =>
        [{ dclk := false, ddata := if k = 0 then s.lines.ddata else s.din.getLsbD (12 - k), dload := s.lines.dload },
         { dclk := false, ddata := s.din.getLsbD (11 - k), dload := s.lines.dload },
         { dclk := true, ddata := s.din.getLsbD (11 - k), dload := s.lines.dload }]) ++
      [{ dclk := false, ddata := s.din.getLsbD 0, dload := s.lines.dload },
       { dclk := false, ddata := s.din.getLsbD 0, dload := false },
       { dclk := false, ddata := s.din.getLsbD 0, dload := true }]
    sr := 0
    bitCnt := 0
    dacOut := s.din.extractLsb' 0 12
    upc := s.upc + 1 }

/-- R176, R89: in the entries one `DWR` appends, a receiver that samples on the rising clock sees exactly the twelve
bits `DIN[11]`, …, `DIN[0]`; the data line changes only while the clock is low; and with `DLOAD` = 1 before, the load
line is low in exactly one entry, the last but one, with the clock low from the entry before it on. -/
def Obligations.DwrFrameHasTwelveMsbFirstPulses : Prop :=
  ∀ s : State, ∃ t frame, exec .dwr s = .next t ∧ t.trace = s.trace ++ frame ∧ frame.length = 39
    ∧ sampledBits s.lines frame = (List.range 12).map (fun k => s.din.getLsbD (11 - k))
    ∧ (∀ (k : Nat) (a b : Lines), (s.lines :: frame)[k]? = some a → (s.lines :: frame)[k + 1]? = some b →
      a.ddata ≠ b.ddata → a.dclk = false ∧ b.dclk = false)
    ∧ (s.lines.dload = true → ∀ (k : Nat) (a : Lines), frame[k]? = some a →
      (a.dload = false ↔ k = 37) ∧ (36 ≤ k → a.dclk = false))

/-- R174: `DWR` depends on `DIN` only through `DIN[11:0]`: replacing the upper four bits changes nothing else of the
next state. -/
def Obligations.DwrIgnoresHighBitsOfDin : Prop :=
  ∀ (s : State) (d : DinWord), d.toNat % 4096 = s.din.toNat % 4096 →
    ∃ t, exec .dwr s = .next t ∧ exec .dwr { s with din := d } = .next { t with din := d }

/-- R181, R180: from lines with the clock low and the load high, the reference receiver reads from the entries of one
`DWR` the code `DIN[11:0]`, and `DAC_OUT` records it; and the receiver that has seen the whole history reads the code
just sent, whatever was sent before. -/
def Obligations.ReceiverReadsTheFrame : Prop :=
  (∀ s : State, s.lines.dclk = false → s.lines.dload = true →
    ∃ t frame, exec .dwr s = .next t ∧ t.trace = s.trace ++ frame
      ∧ (recv frame).out = some (s.din.extractLsb' 0 12) ∧ t.dacOut = s.din.extractLsb' 0 12)
    ∧ ∀ s : State, s.DacAtRest → s.TraceEndsAtLines →
      ∃ t, exec .dwr s = .next t ∧ (recv t.trace).out = some t.dacOut ∧ t.dacOut = s.din.extractLsb' 0 12

/-- R178, R34: outside a `DWR` step the clock is low, the load line high and the shifter empty: every step of every
agent keeps this. -/
def Obligations.StepKeepsDacAtRest : Prop :=
  ∀ s t : State, s.DacAtRest → step s = .next t → t.DacAtRest

/-- R181, R33: the receiver's output over the whole trace is `DAC_OUT`, or it is unknown and no bit has been shifted in:
every step of every agent keeps this. -/
def Obligations.StepKeepsReceiverInAgreement : Prop :=
  ∀ s t : State, s.DacAtRest → s.TraceEndsAtLines → s.ReceiverAgrees → step s = .next t →
    t.TraceEndsAtLines ∧ t.ReceiverAgrees

/-- R40, R251: the state after reset meets the invariants of the DAC driver, and is a safe state with a legal
micro-program. The latter rests on the micro-program and the parameters that the model puts into the state after reset
(assumption logs 1 and 2). -/
def Obligations.ResetMeetsTheInvariants : Prop :=
  State.reset.DacAtRest ∧ State.reset.TraceEndsAtLines ∧ State.reset.ReceiverAgrees
    ∧ State.reset.Safe ∧ State.reset.ProgramLegal

/-- R178, R177: the lines and the trace change only in `DINIT`, `DWR` and RESET, and `DAC_OUT` only in `DWR` and
RESET. -/
def Obligations.LinesChangeOnlyInDriverOps : Prop :=
  ∀ s t : State, step s = .next t → s.resetsNext = false →
    (s.nextOp ≠ some .dinit → s.nextOp ≠ some .dwr → t.lines = s.lines ∧ t.trace = s.trace)
      ∧ (s.nextOp ≠ some .dwr → t.dacOut = s.dacOut)

/-! ### Control sequencer -/

/-- R191: `NOP` advances and changes nothing else. -/
def Obligations.NopOnlyAdvances : Prop :=
  ∀ s : State, exec .nop s = .next { s with upc := s.upc + 1 }

/-- R192: `JMP t` goes to t and changes nothing else; to its own address it changes nothing. -/
def Obligations.JmpGoesToItsTarget : Prop :=
  ∀ (t : UAddr) (s : State), exec (.jmp t) s = .next { s with upc := t }
    ∧ (t = s.upc → exec (.jmp t) s = .next s)

/-- R193: `WAITC` advances if `CT_OVF` is strictly above the threshold of `FREQ` and otherwise changes nothing. -/
def Obligations.WaitcPollsTheThreshold : Prop :=
  ∀ s : State,
    ((threshold s.params s.freq).toNat < s.ct.ovf.toNat → exec .waitc s = .next { s with upc := s.upc + 1 })
      ∧ (s.ct.ovf.toNat ≤ (threshold s.params s.freq).toNat → exec .waitc s = .next s)

/-- R196: `LDF n` puts `FREQ[27:0]` above the nibble, advances, and changes nothing else. -/
def Obligations.LdfShiftsNibbleIntoFreq : Prop :=
  ∀ (n : Nibble) (s : State), exec (.ldf n) s = .next { s with
    freq := s.freq.extractLsb' 0 28 ++ n
    upc := s.upc + 1 }

/-- R197: `LDD n` puts `DIN[11:0]` above the nibble, advances, and changes nothing else. -/
def Obligations.LddShiftsNibbleIntoDin : Prop :=
  ∀ (n : Nibble) (s : State), exec (.ldd n) s = .next { s with
    din := s.din.extractLsb' 0 12 ++ n
    upc := s.upc + 1 }

/-- R87, R268: the expansions of `LDF32` and `LDD16` leave the constant, whatever the register held. -/
def Obligations.WideLoadsLeaveTheConstant : Prop :=
  (∀ (v : Freq) (s : State), execAll (ldf32Expansion v) s = .next { s with freq := v, upc := s.upc + 8 })
    ∧ ∀ (v : DinWord) (s : State), execAll (ldd16Expansion v) s = .next { s with din := v, upc := s.upc + 4 }

/-- R201: a step of a halted sequencer changes nothing (the turn is taken from the schedule, the model's own field). -/
def Obligations.HaltedSequencerChangesNothing : Prop :=
  ∀ s : State, s.params.wellFormed = true → s.nextTurn = .seq → s.halted = true →
    step s = .next { s with schedule := s.schedule.tail }

/-- R36, R91, R39: the status port by its precedence, and the other output ports. -/
def Obligations.StatusPortFollowsItsPrecedence : Prop :=
  ∀ s : State,
    (s.outputs.cstate = if s.seqFault = true then 3 else if s.inh = true then 2 else if s.pulseCount ≠ 0 then 1 else 0)
      ∧ s.outputs.dacClk = s.lines.dclk ∧ s.outputs.dacData = s.lines.ddata ∧ s.outputs.dacLoad = s.lines.dload
      ∧ s.outputs.seqFault = s.seqFault

/-! ### Reset and whole-machine rules -/

/-- R250, R228, R40: RESET, as an event or as a port sample with `rst_n` = 0, from every state, faulted ones too, gives
every register its reset value, `PIN_PREV` the pin's level, and empties the trace; the sample does nothing else, whatever
its other ports say. That the ROM, the parameters and the schedule stay is the model's reading of R38 (assumption
log 8). -/
def Obligations.ResetStepSetsEveryRegister : Prop :=
  ∀ (s : State) (turn : Turn) (pulseIn : Level) (rest : List Turn), s.params.wellFormed = true →
    s.schedule = turn :: rest →
    (turn = .reset pulseIn
      ∨ ∃ tickM tickC seqDone, turn = .sample { rstN := false, pulseIn, tickM, tickC, seqDone }) →
    step s = .next {
      mt := { cnt := 0, ovf := 0, run := false }, ct := { cnt := 0, ovf := 0, run := false }
      pulseCount := 0, snapOvf := 0, snapTicks := 0, inh := true, freq := 0, din := 0
      lines := { dclk := false, ddata := false, dload := true }, dacOut := 0, sr := 0, bitCnt := 0, upc := 0
      seqFault := false, pinPrev := pulseIn, trace := []
      uprog := s.uprog, params := s.params, schedule := rest }

/-- R40, R251: the registers of State.reset, and the status port after reset. `PIN_PREV`, the parameters and the
schedule, whose values there are the model's (assumption logs 1 to 4), are left out. -/
def Obligations.StateAfterReset : Prop :=
  State.reset.mt = { cnt := 0, ovf := 0, run := false } ∧ State.reset.ct = { cnt := 0, ovf := 0, run := false }
    ∧ State.reset.pulseCount = 0 ∧ State.reset.snapOvf = 0 ∧ State.reset.snapTicks = 0 ∧ State.reset.inh = true
    ∧ State.reset.freq = 0 ∧ State.reset.din = 0
    ∧ State.reset.lines = { dclk := false, ddata := false, dload := true } ∧ State.reset.dacOut = 0
    ∧ State.reset.sr = 0 ∧ State.reset.bitCnt = 0 ∧ State.reset.upc = 0 ∧ State.reset.seqFault = false
    ∧ State.reset.trace = [] ∧ State.reset.outputs.cstate = 2

/-- R73, R38: no step of any agent changes the micro-program, the calibration ROM or another parameter. -/
def Obligations.StepKeepsRomsAndParameters : Prop :=
  ∀ s t : State, step s = .next t → t.uprog = s.uprog ∧ t.params = s.params

/-- R221, R10 (e): with a legal micro-program no step of any agent leaves the safe states; in particular SeqFault is
not raised. -/
def Obligations.LegalProgramStaysSafe : Prop :=
  ∀ s t : State, s.Safe → s.ProgramLegal → step s = .next t → t.Safe ∧ t.ProgramLegal

/-- R30, R235: once set, `SEQ_FAULT` is cleared only by RESET; until then `UPC`, `INH`, `FREQ`, `DIN`, `DAC_OUT`, the
lines and the trace keep their values, whatever events occur. -/
def Obligations.SeqFaultHoldsUntilReset : Prop :=
  ∀ s t : State, s.seqFault = true → s.resetsNext = false → step s = .next t →
    t.seqFault = true ∧ t.upc = s.upc ∧ t.inh = s.inh ∧ t.freq = s.freq ∧ t.din = s.din ∧ t.dacOut = s.dacOut
      ∧ t.lines = s.lines ∧ t.trace = s.trace

/-- R41, R226: an event changes no register but the shared ones: the counters and tallies of both timers, `MT_RUN`, the
pulse count and the snapshot. `CT_RUN` is not among them and stays. The sequencer is not diverted and nothing is saved.
The turn is taken from the schedule, the model's own field (assumption log 3). -/
def Obligations.EventsChangeOnlySharedRegisters : Prop :=
  ∀ s t : State, step s = .next t → (s.nextTurn = .edge ∨ s.nextTurn = .tickM ∨ s.nextTurn = .tickC) →
    t = { s with
      schedule := s.schedule.tail
      mt := t.mt
      ct := { t.ct with run := s.ct.run }
      pulseCount := t.pulseCount
      snapOvf := t.snapOvf
      snapTicks := t.snapTicks }

/-- R229, R227, R21: only the sequencer and RESET change `UPC`; only `INH`, `ENA` and RESET change the inhibit; only
`EST`, `LDF` and RESET change `FREQ`. -/
def Obligations.UpcInhAndFreqHaveTheirWriters : Prop :=
  ∀ s t : State, step s = .next t → s.resetsNext = false →
    (s.nextTurn ≠ .seq → t.upc = s.upc)
      ∧ (s.nextOp ≠ some .inh → s.nextOp ≠ some .ena → t.inh = s.inh)
      ∧ (s.nextOp ≠ some .est → (∀ n, s.nextOp ≠ some (.ldf n)) → t.freq = s.freq)
end

