-- ==== Sys2Proof/Laws/State.lean ====
section
/-! SUPPORT. What each update of State does to each field, one lemma per field, all true by definition. -/

namespace Sys2Proof.Machine

/-! ### `State.advance` -/

@[simp] theorem State.advance_mt (s : State) : s.advance.mt = s.mt := rfl
@[simp] theorem State.advance_ct (s : State) : s.advance.ct = s.ct := rfl
@[simp] theorem State.advance_pulseCount (s : State) : s.advance.pulseCount = s.pulseCount := rfl
@[simp] theorem State.advance_snapOvf (s : State) : s.advance.snapOvf = s.snapOvf := rfl
@[simp] theorem State.advance_snapTicks (s : State) : s.advance.snapTicks = s.snapTicks := rfl
@[simp] theorem State.advance_inh (s : State) : s.advance.inh = s.inh := rfl
@[simp] theorem State.advance_freq (s : State) : s.advance.freq = s.freq := rfl
@[simp] theorem State.advance_din (s : State) : s.advance.din = s.din := rfl
@[simp] theorem State.advance_lines (s : State) : s.advance.lines = s.lines := rfl
@[simp] theorem State.advance_dacOut (s : State) : s.advance.dacOut = s.dacOut := rfl
@[simp] theorem State.advance_sr (s : State) : s.advance.sr = s.sr := rfl
@[simp] theorem State.advance_bitCnt (s : State) : s.advance.bitCnt = s.bitCnt := rfl
@[simp] theorem State.advance_upc (s : State) : s.advance.upc = BitVec.ofNat 4 ((s.upc.toNat + 1) % 16) := rfl
@[simp] theorem State.advance_seqFault (s : State) : s.advance.seqFault = s.seqFault := rfl
@[simp] theorem State.advance_pinPrev (s : State) : s.advance.pinPrev = s.pinPrev := rfl
@[simp] theorem State.advance_trace (s : State) : s.advance.trace = s.trace := rfl
@[simp] theorem State.advance_uprog (s : State) : s.advance.uprog = s.uprog := rfl
@[simp] theorem State.advance_params (s : State) : s.advance.params = s.params := rfl
@[simp] theorem State.advance_schedule (s : State) : s.advance.schedule = s.schedule := rfl

/-! ### `State.raiseSeqFault` -/

@[simp] theorem State.raiseSeqFault_mt (s : State) : s.raiseSeqFault.mt = s.mt := rfl
@[simp] theorem State.raiseSeqFault_ct (s : State) : s.raiseSeqFault.ct = s.ct := rfl
@[simp] theorem State.raiseSeqFault_pulseCount (s : State) : s.raiseSeqFault.pulseCount = s.pulseCount := rfl
@[simp] theorem State.raiseSeqFault_snapOvf (s : State) : s.raiseSeqFault.snapOvf = s.snapOvf := rfl
@[simp] theorem State.raiseSeqFault_snapTicks (s : State) : s.raiseSeqFault.snapTicks = s.snapTicks := rfl
@[simp] theorem State.raiseSeqFault_inh (s : State) : s.raiseSeqFault.inh = s.inh := rfl
@[simp] theorem State.raiseSeqFault_freq (s : State) : s.raiseSeqFault.freq = s.freq := rfl
@[simp] theorem State.raiseSeqFault_din (s : State) : s.raiseSeqFault.din = s.din := rfl
@[simp] theorem State.raiseSeqFault_lines (s : State) : s.raiseSeqFault.lines = s.lines := rfl
@[simp] theorem State.raiseSeqFault_dacOut (s : State) : s.raiseSeqFault.dacOut = s.dacOut := rfl
@[simp] theorem State.raiseSeqFault_sr (s : State) : s.raiseSeqFault.sr = s.sr := rfl
@[simp] theorem State.raiseSeqFault_bitCnt (s : State) : s.raiseSeqFault.bitCnt = s.bitCnt := rfl
@[simp] theorem State.raiseSeqFault_upc (s : State) : s.raiseSeqFault.upc = s.upc := rfl
@[simp] theorem State.raiseSeqFault_seqFault (s : State) : s.raiseSeqFault.seqFault = true := rfl
@[simp] theorem State.raiseSeqFault_pinPrev (s : State) : s.raiseSeqFault.pinPrev = s.pinPrev := rfl
@[simp] theorem State.raiseSeqFault_trace (s : State) : s.raiseSeqFault.trace = s.trace := rfl
@[simp] theorem State.raiseSeqFault_uprog (s : State) : s.raiseSeqFault.uprog = s.uprog := rfl
@[simp] theorem State.raiseSeqFault_params (s : State) : s.raiseSeqFault.params = s.params := rfl
@[simp] theorem State.raiseSeqFault_schedule (s : State) : s.raiseSeqFault.schedule = s.schedule := rfl

/-! ### `State.pinWrite` -/

@[simp] theorem State.pinWrite_mt (s : State) (p : Pin) (l : Level) : (s.pinWrite p l).mt = s.mt := rfl
@[simp] theorem State.pinWrite_ct (s : State) (p : Pin) (l : Level) : (s.pinWrite p l).ct = s.ct := rfl
@[simp] theorem State.pinWrite_pulseCount (s : State) (p : Pin) (l : Level) : (s.pinWrite p l).pulseCount = s.pulseCount := rfl
@[simp] theorem State.pinWrite_snapOvf (s : State) (p : Pin) (l : Level) : (s.pinWrite p l).snapOvf = s.snapOvf := rfl
@[simp] theorem State.pinWrite_snapTicks (s : State) (p : Pin) (l : Level) : (s.pinWrite p l).snapTicks = s.snapTicks := rfl
@[simp] theorem State.pinWrite_inh (s : State) (p : Pin) (l : Level) : (s.pinWrite p l).inh = s.inh := rfl
@[simp] theorem State.pinWrite_freq (s : State) (p : Pin) (l : Level) : (s.pinWrite p l).freq = s.freq := rfl
@[simp] theorem State.pinWrite_din (s : State) (p : Pin) (l : Level) : (s.pinWrite p l).din = s.din := rfl
@[simp] theorem State.pinWrite_lines (s : State) (p : Pin) (l : Level) : (s.pinWrite p l).lines = s.lines.set p l := rfl
@[simp] theorem State.pinWrite_dacOut (s : State) (p : Pin) (l : Level) : (s.pinWrite p l).dacOut = s.dacOut := rfl
@[simp] theorem State.pinWrite_sr (s : State) (p : Pin) (l : Level) : (s.pinWrite p l).sr = s.sr := rfl
@[simp] theorem State.pinWrite_bitCnt (s : State) (p : Pin) (l : Level) : (s.pinWrite p l).bitCnt = s.bitCnt := rfl
@[simp] theorem State.pinWrite_upc (s : State) (p : Pin) (l : Level) : (s.pinWrite p l).upc = s.upc := rfl
@[simp] theorem State.pinWrite_seqFault (s : State) (p : Pin) (l : Level) : (s.pinWrite p l).seqFault = s.seqFault := rfl
@[simp] theorem State.pinWrite_pinPrev (s : State) (p : Pin) (l : Level) : (s.pinWrite p l).pinPrev = s.pinPrev := rfl
@[simp] theorem State.pinWrite_trace (s : State) (p : Pin) (l : Level) : (s.pinWrite p l).trace = s.trace ++ [s.lines.set p l] := rfl
@[simp] theorem State.pinWrite_uprog (s : State) (p : Pin) (l : Level) : (s.pinWrite p l).uprog = s.uprog := rfl
@[simp] theorem State.pinWrite_params (s : State) (p : Pin) (l : Level) : (s.pinWrite p l).params = s.params := rfl
@[simp] theorem State.pinWrite_schedule (s : State) (p : Pin) (l : Level) : (s.pinWrite p l).schedule = s.schedule := rfl

/-! ### `State.onTimers` -/

@[simp] theorem State.onTimers_mt (s : State) (m : TimerMask) (f : Timer → Timer) : (s.onTimers m f).mt = if selectsMT m then f s.mt else s.mt := rfl
@[simp] theorem State.onTimers_ct (s : State) (m : TimerMask) (f : Timer → Timer) : (s.onTimers m f).ct = if selectsCT m then f s.ct else s.ct := rfl
@[simp] theorem State.onTimers_pulseCount (s : State) (m : TimerMask) (f : Timer → Timer) : (s.onTimers m f).pulseCount = s.pulseCount := rfl
@[simp] theorem State.onTimers_snapOvf (s : State) (m : TimerMask) (f : Timer → Timer) : (s.onTimers m f).snapOvf = s.snapOvf := rfl
@[simp] theorem State.onTimers_snapTicks (s : State) (m : TimerMask) (f : Timer → Timer) : (s.onTimers m f).snapTicks = s.snapTicks := rfl
@[simp] theorem State.onTimers_inh (s : State) (m : TimerMask) (f : Timer → Timer) : (s.onTimers m f).inh = s.inh := rfl
@[simp] theorem State.onTimers_freq (s : State) (m : TimerMask) (f : Timer → Timer) : (s.onTimers m f).freq = s.freq := rfl
@[simp] theorem State.onTimers_din (s : State) (m : TimerMask) (f : Timer → Timer) : (s.onTimers m f).din = s.din := rfl
@[simp] theorem State.onTimers_lines (s : State) (m : TimerMask) (f : Timer → Timer) : (s.onTimers m f).lines = s.lines := rfl
@[simp] theorem State.onTimers_dacOut (s : State) (m : TimerMask) (f : Timer → Timer) : (s.onTimers m f).dacOut = s.dacOut := rfl
@[simp] theorem State.onTimers_sr (s : State) (m : TimerMask) (f : Timer → Timer) : (s.onTimers m f).sr = s.sr := rfl
@[simp] theorem State.onTimers_bitCnt (s : State) (m : TimerMask) (f : Timer → Timer) : (s.onTimers m f).bitCnt = s.bitCnt := rfl
@[simp] theorem State.onTimers_upc (s : State) (m : TimerMask) (f : Timer → Timer) : (s.onTimers m f).upc = s.upc := rfl
@[simp] theorem State.onTimers_seqFault (s : State) (m : TimerMask) (f : Timer → Timer) : (s.onTimers m f).seqFault = s.seqFault := rfl
@[simp] theorem State.onTimers_pinPrev (s : State) (m : TimerMask) (f : Timer → Timer) : (s.onTimers m f).pinPrev = s.pinPrev := rfl
@[simp] theorem State.onTimers_trace (s : State) (m : TimerMask) (f : Timer → Timer) : (s.onTimers m f).trace = s.trace := rfl
@[simp] theorem State.onTimers_uprog (s : State) (m : TimerMask) (f : Timer → Timer) : (s.onTimers m f).uprog = s.uprog := rfl
@[simp] theorem State.onTimers_params (s : State) (m : TimerMask) (f : Timer → Timer) : (s.onTimers m f).params = s.params := rfl
@[simp] theorem State.onTimers_schedule (s : State) (m : TimerMask) (f : Timer → Timer) : (s.onTimers m f).schedule = s.schedule := rfl

/-! ### `State.loadShifter` -/

@[simp] theorem State.loadShifter_mt (s : State) : s.loadShifter.mt = s.mt := rfl
@[simp] theorem State.loadShifter_ct (s : State) : s.loadShifter.ct = s.ct := rfl
@[simp] theorem State.loadShifter_pulseCount (s : State) : s.loadShifter.pulseCount = s.pulseCount := rfl
@[simp] theorem State.loadShifter_snapOvf (s : State) : s.loadShifter.snapOvf = s.snapOvf := rfl
@[simp] theorem State.loadShifter_snapTicks (s : State) : s.loadShifter.snapTicks = s.snapTicks := rfl
@[simp] theorem State.loadShifter_inh (s : State) : s.loadShifter.inh = s.inh := rfl
@[simp] theorem State.loadShifter_freq (s : State) : s.loadShifter.freq = s.freq := rfl
@[simp] theorem State.loadShifter_din (s : State) : s.loadShifter.din = s.din := rfl
@[simp] theorem State.loadShifter_lines (s : State) : s.loadShifter.lines = s.lines := rfl
@[simp] theorem State.loadShifter_dacOut (s : State) : s.loadShifter.dacOut = s.dacOut := rfl
@[simp] theorem State.loadShifter_sr (s : State) : s.loadShifter.sr = s.din.extractLsb' 0 12 := rfl
@[simp] theorem State.loadShifter_bitCnt (s : State) : s.loadShifter.bitCnt = 12 := rfl
@[simp] theorem State.loadShifter_upc (s : State) : s.loadShifter.upc = s.upc := rfl
@[simp] theorem State.loadShifter_seqFault (s : State) : s.loadShifter.seqFault = s.seqFault := rfl
@[simp] theorem State.loadShifter_pinPrev (s : State) : s.loadShifter.pinPrev = s.pinPrev := rfl
@[simp] theorem State.loadShifter_trace (s : State) : s.loadShifter.trace = s.trace := rfl
@[simp] theorem State.loadShifter_uprog (s : State) : s.loadShifter.uprog = s.uprog := rfl
@[simp] theorem State.loadShifter_params (s : State) : s.loadShifter.params = s.params := rfl
@[simp] theorem State.loadShifter_schedule (s : State) : s.loadShifter.schedule = s.schedule := rfl

/-! ### `State.tickM` -/

@[simp] theorem State.tickM_mt (s : State) : s.tickM.mt = s.mt.tick := rfl
@[simp] theorem State.tickM_ct (s : State) : s.tickM.ct = s.ct := rfl
@[simp] theorem State.tickM_pulseCount (s : State) : s.tickM.pulseCount = s.pulseCount := rfl
@[simp] theorem State.tickM_snapOvf (s : State) : s.tickM.snapOvf = s.snapOvf := rfl
@[simp] theorem State.tickM_snapTicks (s : State) : s.tickM.snapTicks = s.snapTicks := rfl
@[simp] theorem State.tickM_inh (s : State) : s.tickM.inh = s.inh := rfl
@[simp] theorem State.tickM_freq (s : State) : s.tickM.freq = s.freq := rfl
@[simp] theorem State.tickM_din (s : State) : s.tickM.din = s.din := rfl
@[simp] theorem State.tickM_lines (s : State) : s.tickM.lines = s.lines := rfl
@[simp] theorem State.tickM_dacOut (s : State) : s.tickM.dacOut = s.dacOut := rfl
@[simp] theorem State.tickM_sr (s : State) : s.tickM.sr = s.sr := rfl
@[simp] theorem State.tickM_bitCnt (s : State) : s.tickM.bitCnt = s.bitCnt := rfl
@[simp] theorem State.tickM_upc (s : State) : s.tickM.upc = s.upc := rfl
@[simp] theorem State.tickM_seqFault (s : State) : s.tickM.seqFault = s.seqFault := rfl
@[simp] theorem State.tickM_pinPrev (s : State) : s.tickM.pinPrev = s.pinPrev := rfl
@[simp] theorem State.tickM_trace (s : State) : s.tickM.trace = s.trace := rfl
@[simp] theorem State.tickM_uprog (s : State) : s.tickM.uprog = s.uprog := rfl
@[simp] theorem State.tickM_params (s : State) : s.tickM.params = s.params := rfl
@[simp] theorem State.tickM_schedule (s : State) : s.tickM.schedule = s.schedule := rfl

/-! ### `State.tickC` -/

@[simp] theorem State.tickC_mt (s : State) : s.tickC.mt = s.mt := rfl
@[simp] theorem State.tickC_ct (s : State) : s.tickC.ct = s.ct.tick := rfl
@[simp] theorem State.tickC_pulseCount (s : State) : s.tickC.pulseCount = s.pulseCount := rfl
@[simp] theorem State.tickC_snapOvf (s : State) : s.tickC.snapOvf = s.snapOvf := rfl
@[simp] theorem State.tickC_snapTicks (s : State) : s.tickC.snapTicks = s.snapTicks := rfl
@[simp] theorem State.tickC_inh (s : State) : s.tickC.inh = s.inh := rfl
@[simp] theorem State.tickC_freq (s : State) : s.tickC.freq = s.freq := rfl
@[simp] theorem State.tickC_din (s : State) : s.tickC.din = s.din := rfl
@[simp] theorem State.tickC_lines (s : State) : s.tickC.lines = s.lines := rfl
@[simp] theorem State.tickC_dacOut (s : State) : s.tickC.dacOut = s.dacOut := rfl
@[simp] theorem State.tickC_sr (s : State) : s.tickC.sr = s.sr := rfl
@[simp] theorem State.tickC_bitCnt (s : State) : s.tickC.bitCnt = s.bitCnt := rfl
@[simp] theorem State.tickC_upc (s : State) : s.tickC.upc = s.upc := rfl
@[simp] theorem State.tickC_seqFault (s : State) : s.tickC.seqFault = s.seqFault := rfl
@[simp] theorem State.tickC_pinPrev (s : State) : s.tickC.pinPrev = s.pinPrev := rfl
@[simp] theorem State.tickC_trace (s : State) : s.tickC.trace = s.trace := rfl
@[simp] theorem State.tickC_uprog (s : State) : s.tickC.uprog = s.uprog := rfl
@[simp] theorem State.tickC_params (s : State) : s.tickC.params = s.params := rfl
@[simp] theorem State.tickC_schedule (s : State) : s.tickC.schedule = s.schedule := rfl

/-! ### `State.captureEdge` -/

@[simp] theorem State.captureEdge_mt (s : State) : s.captureEdge.mt = if s.pulseCount = 0 then s.mt.start else s.mt := rfl
@[simp] theorem State.captureEdge_ct (s : State) : s.captureEdge.ct = s.ct := rfl
@[simp] theorem State.captureEdge_pulseCount (s : State) : s.captureEdge.pulseCount = satInc s.pulseCount := rfl
@[simp] theorem State.captureEdge_snapOvf (s : State) : s.captureEdge.snapOvf = s.mt.ovf := rfl
@[simp] theorem State.captureEdge_snapTicks (s : State) : s.captureEdge.snapTicks = s.mt.cnt := rfl
@[simp] theorem State.captureEdge_inh (s : State) : s.captureEdge.inh = s.inh := rfl
@[simp] theorem State.captureEdge_freq (s : State) : s.captureEdge.freq = s.freq := rfl
@[simp] theorem State.captureEdge_din (s : State) : s.captureEdge.din = s.din := rfl
@[simp] theorem State.captureEdge_lines (s : State) : s.captureEdge.lines = s.lines := rfl
@[simp] theorem State.captureEdge_dacOut (s : State) : s.captureEdge.dacOut = s.dacOut := rfl
@[simp] theorem State.captureEdge_sr (s : State) : s.captureEdge.sr = s.sr := rfl
@[simp] theorem State.captureEdge_bitCnt (s : State) : s.captureEdge.bitCnt = s.bitCnt := rfl
@[simp] theorem State.captureEdge_upc (s : State) : s.captureEdge.upc = s.upc := rfl
@[simp] theorem State.captureEdge_seqFault (s : State) : s.captureEdge.seqFault = s.seqFault := rfl
@[simp] theorem State.captureEdge_pinPrev (s : State) : s.captureEdge.pinPrev = s.pinPrev := rfl
@[simp] theorem State.captureEdge_trace (s : State) : s.captureEdge.trace = s.trace := rfl
@[simp] theorem State.captureEdge_uprog (s : State) : s.captureEdge.uprog = s.uprog := rfl
@[simp] theorem State.captureEdge_params (s : State) : s.captureEdge.params = s.params := rfl
@[simp] theorem State.captureEdge_schedule (s : State) : s.captureEdge.schedule = s.schedule := rfl

/-! ### `State.takeTurn` -/

@[simp] theorem State.takeTurn_mt (s : State) : s.takeTurn.mt = s.mt := rfl
@[simp] theorem State.takeTurn_ct (s : State) : s.takeTurn.ct = s.ct := rfl
@[simp] theorem State.takeTurn_pulseCount (s : State) : s.takeTurn.pulseCount = s.pulseCount := rfl
@[simp] theorem State.takeTurn_snapOvf (s : State) : s.takeTurn.snapOvf = s.snapOvf := rfl
@[simp] theorem State.takeTurn_snapTicks (s : State) : s.takeTurn.snapTicks = s.snapTicks := rfl
@[simp] theorem State.takeTurn_inh (s : State) : s.takeTurn.inh = s.inh := rfl
@[simp] theorem State.takeTurn_freq (s : State) : s.takeTurn.freq = s.freq := rfl
@[simp] theorem State.takeTurn_din (s : State) : s.takeTurn.din = s.din := rfl
@[simp] theorem State.takeTurn_lines (s : State) : s.takeTurn.lines = s.lines := rfl
@[simp] theorem State.takeTurn_dacOut (s : State) : s.takeTurn.dacOut = s.dacOut := rfl
@[simp] theorem State.takeTurn_sr (s : State) : s.takeTurn.sr = s.sr := rfl
@[simp] theorem State.takeTurn_bitCnt (s : State) : s.takeTurn.bitCnt = s.bitCnt := rfl
@[simp] theorem State.takeTurn_upc (s : State) : s.takeTurn.upc = s.upc := rfl
@[simp] theorem State.takeTurn_seqFault (s : State) : s.takeTurn.seqFault = s.seqFault := rfl
@[simp] theorem State.takeTurn_pinPrev (s : State) : s.takeTurn.pinPrev = s.pinPrev := rfl
@[simp] theorem State.takeTurn_trace (s : State) : s.takeTurn.trace = s.trace := rfl
@[simp] theorem State.takeTurn_uprog (s : State) : s.takeTurn.uprog = s.uprog := rfl
@[simp] theorem State.takeTurn_params (s : State) : s.takeTurn.params = s.params := rfl
@[simp] theorem State.takeTurn_schedule (s : State) : s.takeTurn.schedule = s.schedule.tail := rfl

/-! ### `State.applyReset` -/

@[simp] theorem State.applyReset_mt (s : State) (l : Level) : (s.applyReset l).mt = { cnt := 0, ovf := 0, run := false } := rfl
@[simp] theorem State.applyReset_ct (s : State) (l : Level) : (s.applyReset l).ct = { cnt := 0, ovf := 0, run := false } := rfl
@[simp] theorem State.applyReset_pulseCount (s : State) (l : Level) : (s.applyReset l).pulseCount = 0 := rfl
@[simp] theorem State.applyReset_snapOvf (s : State) (l : Level) : (s.applyReset l).snapOvf = 0 := rfl
@[simp] theorem State.applyReset_snapTicks (s : State) (l : Level) : (s.applyReset l).snapTicks = 0 := rfl
@[simp] theorem State.applyReset_inh (s : State) (l : Level) : (s.applyReset l).inh = true := rfl
@[simp] theorem State.applyReset_freq (s : State) (l : Level) : (s.applyReset l).freq = 0 := rfl
@[simp] theorem State.applyReset_din (s : State) (l : Level) : (s.applyReset l).din = 0 := rfl
@[simp] theorem State.applyReset_lines (s : State) (l : Level) : (s.applyReset l).lines = { dclk := false, ddata := false, dload := true } := rfl
@[simp] theorem State.applyReset_dacOut (s : State) (l : Level) : (s.applyReset l).dacOut = 0 := rfl
@[simp] theorem State.applyReset_sr (s : State) (l : Level) : (s.applyReset l).sr = 0 := rfl
@[simp] theorem State.applyReset_bitCnt (s : State) (l : Level) : (s.applyReset l).bitCnt = 0 := rfl
@[simp] theorem State.applyReset_upc (s : State) (l : Level) : (s.applyReset l).upc = 0 := rfl
@[simp] theorem State.applyReset_seqFault (s : State) (l : Level) : (s.applyReset l).seqFault = false := rfl
@[simp] theorem State.applyReset_pinPrev (s : State) (l : Level) : (s.applyReset l).pinPrev = l := rfl
@[simp] theorem State.applyReset_trace (s : State) (l : Level) : (s.applyReset l).trace = [] := rfl
@[simp] theorem State.applyReset_uprog (s : State) (l : Level) : (s.applyReset l).uprog = s.uprog := rfl
@[simp] theorem State.applyReset_params (s : State) (l : Level) : (s.applyReset l).params = s.params := rfl
@[simp] theorem State.applyReset_schedule (s : State) (l : Level) : (s.applyReset l).schedule = s.schedule := rfl

/-! ### `Lines.set` -/

@[simp] theorem Lines.set_dclk (l : Lines) (v : Level) : l.set .dclk v = { l with dclk := v } := rfl
@[simp] theorem Lines.set_ddata (l : Lines) (v : Level) : l.set .ddata v = { l with ddata := v } := rfl
@[simp] theorem Lines.set_dload (l : Lines) (v : Level) : l.set .dload v = { l with dload := v } := rfl

/-! ### The timer operations -/

@[simp] theorem Timer.stop_cnt (t : Timer) : t.stop.cnt = t.cnt := rfl
@[simp] theorem Timer.stop_ovf (t : Timer) : t.stop.ovf = t.ovf := rfl
@[simp] theorem Timer.stop_run (t : Timer) : t.stop.run = false := rfl
@[simp] theorem Timer.clear_cnt (t : Timer) : t.clear.cnt = 0 := rfl
@[simp] theorem Timer.clear_ovf (t : Timer) : t.clear.ovf = 0 := rfl
@[simp] theorem Timer.clear_run (t : Timer) : t.clear.run = t.run := rfl
@[simp] theorem Timer.start_cnt (t : Timer) : t.start.cnt = t.cnt := rfl
@[simp] theorem Timer.start_ovf (t : Timer) : t.start.ovf = t.ovf := rfl
@[simp] theorem Timer.start_run (t : Timer) : t.start.run = true := rfl

end Sys2Proof.Machine
end

