-- ==== Sys2Proof/Laws/Ops.lean ====
section
/-! SUPPORT. One lemma per shared operation that says all it can do, so that proofs cite it and need not unfold it. -/

namespace Sys2Proof.Machine

/-- A saturating increment is the exact sum, capped at the largest value. -/
theorem satInc_toNat {n : Nat} (v : BitVec n) : (satInc v).toNat = min (v.toNat + 1) (2 ^ n - 1) := by
  have hv := v.isLt
  unfold satInc
  split
  · omega
  · rw [BitVec.toNat_ofNat, Nat.mod_eq_of_lt (by omega)]
    omega

/-- The saturating increment of a 16-bit counter without naturals. -/
theorem satInc_eq_ite (v : BitVec 16) : satInc v = if v = 65535 then 65535 else v + 1 := by
  apply BitVec.eq_of_toNat_eq
  have hv := v.isLt
  rw [satInc_toNat]
  split
  · simp_all
  · rename_i h
    have : v.toNat ≠ 65535 := fun h' => h (BitVec.eq_of_toNat_eq h')
    rw [BitVec.toNat_add, show (1 : BitVec 16).toNat = 1 from rfl, Nat.mod_eq_of_lt (by omega)]
    omega

/-- Advancing the micro-program counter is adding 1 to a 4-bit number. -/
theorem State.advance_eq (s : State) : s.advance = { s with upc := s.upc + 1 } := by
  have : BitVec.ofNat 4 ((s.upc.toNat + 1) % 16) = s.upc + 1 := by
    apply BitVec.eq_of_toNat_eq
    simp [BitVec.toNat_add]
  simp only [State.advance, this]

/-- Shifting a nibble in is keeping the low part and appending the nibble. -/
theorem shiftInNibble_freq (v : Freq) (n : Nibble) : shiftInNibble v n = v.extractLsb' 0 28 ++ n := by
  apply BitVec.eq_of_toNat_eq
  have hn := n.isLt
  simp only [shiftInNibble, BitVec.toNat_ofNat, BitVec.toNat_append, BitVec.extractLsb'_toNat, Nat.shiftRight_zero]
  rw [Nat.shiftLeft_eq, Nat.mul_comm _ (2 ^ 4), ← Nat.two_pow_add_eq_or_of_lt (i := 4) hn]
  omega

/-- Shifting a nibble in is keeping the low part and appending the nibble. -/
theorem shiftInNibble_din (v : DinWord) (n : Nibble) : shiftInNibble v n = v.extractLsb' 0 12 ++ n := by
  apply BitVec.eq_of_toNat_eq
  have hn := n.isLt
  simp only [shiftInNibble, BitVec.toNat_ofNat, BitVec.toNat_append, BitVec.extractLsb'_toNat, Nat.shiftRight_zero]
  rw [Nat.shiftLeft_eq, Nat.mul_comm _ (2 ^ 4), ← Nat.two_pow_add_eq_or_of_lt (i := 4) hn]
  omega

/-- A tick: nothing on a stopped timer, else one up on the counter, with a carry into the tally that sticks. -/
theorem Timer.tick_eq (t : Timer) : t.tick = {
    cnt := if t.run then t.cnt + 1 else t.cnt
    ovf := if t.run ∧ t.cnt = 255 then satInc t.ovf else t.ovf
    run := t.run } := by
  obtain ⟨cnt, ovf, run⟩ := t
  cases run
  · rfl
  · by_cases h : cnt = 255
    · subst h
      simp [Timer.tick]
    · have hc : cnt.toNat ≠ 255 := fun hc => h (BitVec.eq_of_toNat_eq hc)
      have h' : BitVec.ofNat 8 (cnt.toNat + 1) = cnt + 1 := by
        apply BitVec.eq_of_toNat_eq
        simp [BitVec.toNat_add]
      simp only [Timer.tick, if_true, if_neg hc, h', h, and_false, if_false]

@[simp] theorem Timer.tick_run (t : Timer) : t.tick.run = t.run := by rw [Timer.tick_eq]

/-- The 24-bit quantity of a timer after a tick: one up while it runs, but for the wrap below a tally that sticks. -/
theorem Timer.tick_elapsed (t : Timer) :
    t.tick.elapsed =
      if t.run = false then t.elapsed
      else if t.elapsed = 16777215 then 16776960
      else t.elapsed + 1 := by
  obtain ⟨cnt, ovf, run⟩ := t
  have hc := cnt.isLt
  have ho := ovf.isLt
  cases run
  · rfl
  · have he : (Timer.mk cnt ovf true).elapsed = ovf.toNat * 256 + cnt.toNat := rfl
    by_cases h : cnt.toNat = 255
    · have ht : (Timer.mk cnt ovf true).tick = ⟨0, satInc ovf, true⟩ := by simp [Timer.tick, h]
      have hs : (Timer.mk 0 (satInc ovf) true).elapsed = (satInc ovf).toNat * 256 + 0 := rfl
      simp only [ht, hs, he, satInc_toNat, Bool.true_eq_false, if_false]
      by_cases hm : ovf.toNat = 65535
      · rw [hm, h]
        rfl
      · rw [Nat.min_eq_left (by omega), if_neg (by omega)]
        omega
    · have ht : (Timer.mk cnt ovf true).tick = ⟨BitVec.ofNat 8 (cnt.toNat + 1), ovf, true⟩ := by simp [Timer.tick, h]
      have hs : (Timer.mk (BitVec.ofNat 8 (cnt.toNat + 1)) ovf true).elapsed
          = ovf.toNat * 256 + (cnt.toNat + 1) % 2 ^ 8 := by
        rw [← BitVec.toNat_ofNat]
        rfl
      simp only [ht, hs, he, Bool.true_eq_false, if_false]
      clear ht hs he
      split <;> omega

/-- The word read at an address depends on the ROM alone. -/
theorem State.fetch_takeTurn (s : State) : s.takeTurn.fetch = s.fetch := rfl

/-- What fetch reads right after `withFetchWord`. -/
theorem State.fetch_withFetchWord (s : State) (w : Nat) (h : w < 256) :
    (s.withFetchWord 8 w).fetch = BitVec.ofNat 8 w := by
  simp [State.withFetchWord, State.fetch, State.readUprog, Nat.mod_eq_of_lt h]

end Sys2Proof.Machine
end

