-- ==== Sys2Proof/Laws/PerInstr.lean ====
section
/-! SUPPORT. A law of every micro-op as syntax, one lemma per constructor: its word lies in its row of the opcode table
(spec/opcode_table.json; 30_encoding.md R83) and in no other. -/

namespace Sys2Proof.Laws.EncodeMatches

/-- The mask and the match of each row of spec/opcode_table.json, in its order. -/
def rows : List (UopWord × UopWord) :=
  [(0xFF, 0x00), (0xFF, 0x10), (0xFF, 0x20), (0xFC, 0x30), (0xFC, 0x40), (0xFC, 0x50), (0xFF, 0x60), (0xFF, 0x70),
   (0xFF, 0x80), (0xFF, 0x90), (0xFF, 0xA0), (0xFF, 0xC0), (0xF0, 0xD0), (0xF0, 0xE0), (0xF0, 0xF0)]

/-- The number of a micro-op's row. -/
def rowOf : Instr → Nat
  | .nop => 0
  | .inh => 1
  | .ena => 2
  | .tstop _ => 3
  | .trst _ => 4
  | .tstart _ => 5
  | .pcclr => 6
  | .est => 7
  | .itp => 8
  | .dinit => 9
  | .dwr => 10
  | .waitc => 11
  | .jmp _ => 12
  | .ldf _ => 13
  | .ldd _ => 14

/-- The rows a word lies in. -/
def rowsOf (w : UopWord) : List Nat :=
  (List.range 15).filter fun k => rows[k]?.any fun r => w &&& r.1 == r.2

/-- The micro-op's word lies in the micro-op's row and in no other. -/
def Statement (i : Instr) : Prop := rowsOf (encode i) = [rowOf i]

theorem nop : Statement .nop := by unfold Statement; decide
theorem inh : Statement .inh := by unfold Statement; decide
theorem ena : Statement .ena := by unfold Statement; decide
theorem tstop : ∀ m, Statement (.tstop m) := by unfold Statement; decide
theorem trst : ∀ m, Statement (.trst m) := by unfold Statement; decide
theorem tstart : ∀ m, Statement (.tstart m) := by unfold Statement; decide
theorem pcclr : Statement .pcclr := by unfold Statement; decide
theorem est : Statement .est := by unfold Statement; decide
theorem itp : Statement .itp := by unfold Statement; decide
theorem dinit : Statement .dinit := by unfold Statement; decide
theorem dwr : Statement .dwr := by unfold Statement; decide
theorem waitc : Statement .waitc := by unfold Statement; decide
theorem jmp : ∀ t, Statement (.jmp t) := by unfold Statement; decide
theorem ldf : ∀ n, Statement (.ldf n) := by unfold Statement; decide
theorem ldd : ∀ n, Statement (.ldd n) := by unfold Statement; decide

end Sys2Proof.Laws.EncodeMatches
end

