-- ==== Sys2Proof/Laws/Step.lean ====
section
/-! SUPPORT. What a step can do, said once: the inversion of `step`, and the recursion of the run-indexed terms. -/

namespace Sys2Proof.Machine

/-- A step on a well-formed configuration is the step of the agent whose turn it is. -/
theorem step_of_wellFormed {s : State} (h : s.params.wellFormed = true) :
    step s = turnStep s.nextTurn s.takeTurn := by
  simp only [step, h, if_true]

/-- Everything a step that answers a next state can have been. -/
theorem step_next_cases {s t : State} (h : step s = .next t) :
    s.params.wellFormed = true ∧
      ((s.nextTurn = .seq ∧ s.seqFault = false ∧ ∃ i, decode s.fetch = .instr i ∧ exec i s.takeTurn = .next t)
      ∨ (s.nextTurn = .seq ∧ s.seqFault = false ∧ (∃ why, decode s.fetch = .illegal why)
          ∧ t = s.takeTurn.raiseSeqFault)
      ∨ (s.nextTurn = .edge ∧ t = s.takeTurn.edge)
      ∨ (s.nextTurn = .tickM ∧ t = s.takeTurn.tickM)
      ∨ (s.nextTurn = .tickC ∧ t = s.takeTurn.tickC)
      ∨ (∃ l, s.nextTurn = .reset l ∧ t = s.takeTurn.applyReset l)
      ∨ (∃ p, s.nextTurn = .sample p ∧ t = s.takeTurn.samplePorts p)) := by
  unfold step at h
  split at h
  case isFalse => cases h
  case isTrue hw =>
    refine ⟨hw, ?_⟩
    cases ht : s.nextTurn with
    | seq =>
      simp only [ht, turnStep, seqStep, State.takeTurn_seqFault, State.fetch_takeTurn] at h
      cases hf : s.seqFault
      · simp only [hf, Bool.false_eq_true, if_false] at h
        cases hd : decode s.fetch with
        | instr i =>
          rw [hd] at h
          exact .inl ⟨rfl, rfl, i, rfl, h⟩
        | illegal why =>
          rw [hd] at h
          exact .inr (.inl ⟨rfl, rfl, ⟨why, rfl⟩, by cases h; rfl⟩)
      · simp [hf] at h
    | edge => simp only [ht, turnStep] at h; cases h; simp
    | tickM => simp only [ht, turnStep] at h; cases h; simp
    | tickC => simp only [ht, turnStep] at h; cases h; simp
    | reset l => simp only [ht, turnStep] at h; cases h; simp
    | sample p => simp only [ht, turnStep] at h; cases h; simp

/-- The next micro-op is `i` exactly if the sequencer has the turn, is not faulted and fetches a word of `i`. -/
theorem State.nextOp_eq_some {s : State} {i : Instr} :
    s.nextOp = some i ↔ s.nextTurn = .seq ∧ s.seqFault = false ∧ decode s.fetch = .instr i := by
  unfold State.nextOp
  split
  case isTrue h => cases hd : decode s.fetch <;> simp [h, Decoded.instr?]
  case isFalse h => simp only [reduceCtorEq, false_iff]; tauto

/-- A run of no steps. -/
theorem run_zero {s t : State} : Run 0 s t ↔ s = t := by
  simp only [Run, Host.Core.run]
  constructor
  · intro h; cases h; rfl
  · rintro rfl; rfl

/-- A run of `k + 1` steps is a step and a run of `k` steps. -/
theorem run_succ {k : Nat} {s t : State} : Run (k + 1) s t ↔ ∃ u, step s = .next u ∧ Run k u t := by
  have hs : Sys2Proof.core.step s = step s := rfl
  simp only [Run, Host.Core.run, hs]
  cases h : step s with
  | next u =>
    constructor
    · intro h'; exact ⟨u, rfl, h'⟩
    · rintro ⟨v, hv, h'⟩; cases hv; exact h'
  | fault r => constructor <;> intro h' <;> simp at h'
  | refused r => constructor <;> intro h' <;> simp at h'

theorem countSteps_succ {p : State → Bool} {k : Nat} {s u : State} (h : step s = .next u) :
    countSteps p (k + 1) s = (p s).toNat + countSteps p k u := by
  simp only [countSteps, h]

theorem neverSteps_succ {p : State → Bool} {k : Nat} {s u : State} (h : step s = .next u) :
    neverSteps p (k + 1) s = (!p s && neverSteps p k u) := by
  simp only [neverSteps, h]

theorem lastStep_succ {p : State → Bool} {k : Nat} {s u : State} (h : step s = .next u) :
    lastStep p (k + 1) s = (lastStep p k u).or (if p s then some s else none) := by
  simp only [lastStep, h]

/-- An induction over runs: what holds between a state and itself, and is kept when a step is put before a run, holds
along every run. -/
theorem run_induction {P : Nat → State → State → Prop} (zero : ∀ s, P 0 s s)
    (succ : ∀ k s u t, step s = .next u → Run k u t → P k u t → P (k + 1) s t) :
    ∀ {k s t}, Run k s t → P k s t := by
  intro k
  induction k with
  | zero =>
    intro s t h
    rw [run_zero] at h
    subst h
    exact zero s
  | succ k ih =>
    intro s t h
    obtain ⟨u, hu, h⟩ := run_succ.mp h
    exact succ k s u t hu h (ih h)

end Sys2Proof.Machine
end

