-- ==== Sys2Proof/Laws/Units.lean ====
section
/-! SUPPORT. One lemma per operation of the units that says all it can do: the estimate, the threshold, the
linear interpolation and the table scan, the passes of the DAC shifter, and reading a trace in parts. -/

namespace Sys2Proof.Machine

/-! ### Frequency estimator -/

/-- The estimate as a natural number: the quotient always fits 32 bits. -/
theorem estimate_toNat (knum : Freq) (p e : Nat) :
    (estimate knum p e).toNat =
      if p ≤ 1 then 0 else if e / (p - 1) = 0 then 4294967295 else knum.toNat / (e / (p - 1)) := by
  unfold estimate averagePeriod
  split
  · rfl
  · split
    · rfl
    · rw [BitVec.toNat_ofNat, Nat.mod_eq_of_lt (Nat.lt_of_le_of_lt (Nat.div_le_self _ _) knum.isLt)]

/-! ### The adaptive threshold -/

/-- Two frequencies at which the same pieces have started have the same threshold. -/
theorem steppedThreshold_congr {pieces : List ThreshPiece} {f g : Freq} :
    ∀ {base : Tally}, (∀ q ∈ pieces, q.start ≤ f ↔ q.start ≤ g) →
      steppedThreshold base pieces f = steppedThreshold base pieces g := by
  induction pieces with
  | nil => intro _ _; rfl
  | cons q rest ih =>
    intro base h
    have hq : (if q.start ≤ f then q.value else base) = if q.start ≤ g then q.value else base := by
      simp only [h q (by simp)]
    simp only [steppedThreshold, List.foldl_cons, hq]
    exact ih fun r hr => h r (by simp [hr])

/-- The highest of a list's points that lie at or below a frequency, if one does. -/
theorem exists_highest_point {points : List Freq} {f : Freq} (h : ∃ c ∈ points, c ≤ f) :
    ∃ c ∈ points, c ≤ f ∧ ∀ d ∈ points, d ≤ f → d ≤ c := by
  induction points with
  | nil => simp at h
  | cons a rest ih =>
    by_cases hr : ∃ c ∈ rest, c ≤ f
    · obtain ⟨c, hc, hcf, hmax⟩ := ih hr
      by_cases ha : a ≤ f ∧ c ≤ a
      · refine ⟨a, by simp, ha.1, fun d hd hdf => ?_⟩
        rcases List.mem_cons.mp hd with rfl | hd
        · exact BitVec.le_refl _
        · exact BitVec.le_trans (hmax d hd hdf) ha.2
      · refine ⟨c, by simp [hc], hcf, fun d hd hdf => ?_⟩
        rcases List.mem_cons.mp hd with rfl | hd
        · simp only [BitVec.le_def] at *
          omega
        · exact hmax d hd hdf
    · obtain ⟨c, hc, hcf⟩ := h
      rcases List.mem_cons.mp hc with rfl | hc
      · refine ⟨c, by simp, hcf, fun d hd hdf => ?_⟩
        rcases List.mem_cons.mp hd with rfl | hd
        · exact BitVec.le_refl _
        · exact absurd ⟨d, hd, hdf⟩ hr
      · exact absurd ⟨c, hc, hcf⟩ hr

/-- A threshold given by its pieces has at every frequency the value it has at the highest of 0 and the starts at or
below it. -/
theorem steppedThreshold_eq_at_point (base : Tally) (pieces : List ThreshPiece) (f : Freq) :
    ∃ c ∈ 0 :: pieces.map ThreshPiece.start, c ≤ f
      ∧ (∀ d ∈ 0 :: pieces.map ThreshPiece.start, d ≤ f → d ≤ c)
      ∧ steppedThreshold base pieces f = steppedThreshold base pieces c := by
  obtain ⟨c, hc, hcf, hmax⟩ := exists_highest_point (points := 0 :: pieces.map ThreshPiece.start) (f := f)
    ⟨0, by simp, by simp [BitVec.le_def]⟩
  refine ⟨c, hc, hcf, hmax, steppedThreshold_congr fun q hq => ⟨fun h => ?_, fun h => BitVec.le_trans h hcf⟩⟩
  exact hmax _ (List.mem_cons_of_mem _ (List.mem_map_of_mem hq)) h

/-! ### Calibration interpolator -/

/-- A part of a product that is at most the whole. -/
theorem mul_div_le_of_le {x span d : Nat} (h : x ≤ span) : x * d / span ≤ d := by
  rcases Nat.eq_zero_or_pos span with h0 | h0
  · simp [h0]
  · rw [Nat.div_le_iff_le_mul_add_pred h0]
    have := Nat.mul_le_mul_right d h
    omega

/-- `lerp` as a natural number: inside its segment the result always fits 12 bits. -/
theorem lerp_toNat {f : Freq} {a b : CalEntry} (h₁ : a.freq.toNat ≤ f.toNat) (h₂ : f.toNat ≤ b.freq.toNat) :
    (lerp f a b).toNat =
      if a.code.toNat ≤ b.code.toNat then
        a.code.toNat + (f.toNat - a.freq.toNat) * (b.code.toNat - a.code.toNat) / (b.freq.toNat - a.freq.toNat)
      else
        a.code.toNat - (f.toNat - a.freq.toNat) * (a.code.toNat - b.code.toNat) / (b.freq.toNat - a.freq.toNat) := by
  have ha := a.code.isLt
  have hb := b.code.isLt
  unfold lerp
  split
  · have := mul_div_le_of_le (d := b.code.toNat - a.code.toNat)
      (show f.toNat - a.freq.toNat ≤ b.freq.toNat - a.freq.toNat by omega)
    simp only [BitVec.toNat_ofNat]
    rw [Nat.mod_eq_of_lt (by omega)]
  · simp only [BitVec.toNat_ofNat]
    rw [Nat.mod_eq_of_lt (Nat.lt_of_le_of_lt (Nat.sub_le _ _) ha)]

/-- The scan passes over a segment that does not bracket. -/
theorem scanSegments_skip {f : Freq} {a b : CalEntry} {rest : List CalEntry}
    (h : ¬(a.freq.toNat ≤ f.toNat ∧ f.toNat ≤ b.freq.toNat)) :
    scanSegments f a (b :: rest) = scanSegments f b rest := by
  rw [scanSegments, if_neg (by simpa [BitVec.le_def] using h)]

/-- The scan stops at the first segment that brackets. -/
theorem scanSegments_take {f : Freq} {a b : CalEntry} {rest : List CalEntry}
    (h₁ : a.freq.toNat ≤ f.toNat) (h₂ : f.toNat ≤ b.freq.toNat) :
    scanSegments f a (b :: rest) =
      if f = a.freq then a.code else if f = b.freq then b.code else lerp f a b := by
  rw [scanSegments, if_pos (by simpa [BitVec.le_def] using And.intro h₁ h₂)]

/-! ### Serial DAC driver -/

/-- Doubling a 12-bit number is shifting it left by one. -/
theorem ofNat_double_eq_shiftLeft (x : BitVec 12) : BitVec.ofNat 12 (x.toNat * 2) = x <<< 1 := by
  apply BitVec.eq_of_toNat_eq
  simp [BitVec.toNat_shiftLeft, Nat.shiftLeft_eq]

/-- One pass of the loop of `DWR`. -/
theorem State.shiftBit_eq (s : State) : s.shiftBit = { s with
    lines := { dclk := true, ddata := s.sr.getLsbD 11, dload := s.lines.dload }
    trace := s.trace ++
      [{ dclk := false, ddata := s.lines.ddata, dload := s.lines.dload },
       { dclk := false, ddata := s.sr.getLsbD 11, dload := s.lines.dload },
       { dclk := true, ddata := s.sr.getLsbD 11, dload := s.lines.dload }]
    sr := s.sr <<< 1
    bitCnt := BitVec.ofNat 4 (s.bitCnt.toNat - 1) } := by
  simp [State.shiftBit, State.pinWrite, Lines.set, ofNat_double_eq_shiftLeft]

/-- The load pulse of `DWR`. -/
theorem State.loadPulse_eq (s : State) : s.loadPulse = { s with
    lines := { dclk := false, ddata := s.lines.ddata, dload := true }
    trace := s.trace ++
      [{ dclk := false, ddata := s.lines.ddata, dload := s.lines.dload },
       { dclk := false, ddata := s.lines.ddata, dload := false },
       { dclk := false, ddata := s.lines.ddata, dload := true }] } := by
  simp [State.loadPulse, State.pinWrite, Lines.set]

/-- `k + 1` passes of the loop of `DWR`: pass j drives bit 11 of the shifter shifted j times. -/
theorem State.shiftBits_succ_eq (k : Nat) : ∀ s : State, State.shiftBits (k + 1) s = { s with
    lines := { dclk := true, ddata := (s.sr <<< k).getLsbD 11, dload := s.lines.dload }
    trace := s.trace ++ (List.range (k + 1)).flatMap fun j =>
      [{ dclk := false, ddata := if j = 0 then s.lines.ddata else (s.sr <<< (j - 1)).getLsbD 11,
         dload := s.lines.dload },
       { dclk := false, ddata := (s.sr <<< j).getLsbD 11, dload := s.lines.dload },
       { dclk := true, ddata := (s.sr <<< j).getLsbD 11, dload := s.lines.dload }]
    sr := s.sr <<< (k + 1)
    bitCnt := BitVec.ofNat 4 (s.bitCnt.toNat - (k + 1)) } := by
  induction k with
  | zero => intro s; simp [State.shiftBits, State.shiftBit_eq]
  | succ k ih =>
    intro s
    rw [State.shiftBits, ih, State.shiftBit_eq]
    have e : ∀ (x : BitVec 12) j, (x <<< 1) <<< j = x <<< (j + 1) := by
      intro x j
      rw [← BitVec.shiftLeft_add, Nat.add_comm]
    simp only [State.mk.injEq, true_and, and_true, e]
    constructor
    · apply BitVec.eq_of_toNat_eq
      have := s.bitCnt.isLt
      simp only [BitVec.toNat_ofNat]
      omega
    · rw [List.range_succ_eq_map (n := k + 1)]
      simp only [List.flatMap_cons, List.flatMap_map, List.append_assoc, List.append_cancel_left_eq]
      congr 1
      · simp
      · apply List.flatMap_congr
        intro j _
        cases j <;> simp

/-! ### Reading a trace -/

/-- The receiver reads a trace in parts. -/
theorem Receiver.follow_append (l₁ : List Lines) : ∀ (l₂ : List Lines) (r : Receiver) (prev : Lines),
    r.follow prev (l₁ ++ l₂) = (r.follow prev l₁).follow (l₁.getLastD prev) l₂ := by
  induction l₁ with
  | nil => intro l₂ r prev; rfl
  | cons a l ih =>
    intro l₂ r prev
    simp only [List.cons_append, Receiver.follow, ih]
    cases l <;> rfl

end Sys2Proof.Machine
end

