-- ==== Sys2Proof/Tests/Slice0.lean ====
section
/-! SUPPORT. Tests. The expected results are the spec's: its worked examples and vectors (95_test_vectors.md, named V…
and E…), its encoding table (30_encoding.md R83), or worked out by hand from the rule named. -/

namespace Sys2Proof.Tests

open Sys2Proof Sys2Proof.Machine

/-- The next state, if there is one. -/
def nextOf (o : Host.Outcome State Fault Refusal) : Option State :=
  match o with
  | .next t => some t
  | _ => none

/-- Why the step stops, if it does. -/
def stopOf (o : Host.Outcome State Fault Refusal) : Option (Fault ⊕ Refusal) :=
  match o with
  | .next _ => none
  | .fault r => some (.inl r)
  | .refused r => some (.inr r)

/-- The state after the next step runs a word. -/
def after (s : State) (w : Nat) : Option State := nextOf (step (s.withFetchWord 8 w))

/-- The state after the words run one after another. -/
def afterAll (s : State) : List Nat → Option State
  | [] => some s
  | w :: ws => (after s w).bind fun t => afterAll t ws

/-- The state after the given turns. -/
def afterTurns (s : State) (turns : List Turn) : Option State :=
  nextOf (Host.Core.run Sys2Proof.core turns.length { s with schedule := turns })

/-- A timer written as the spec's vectors write it: run flag, tally, counter. -/
def tm (run : Nat) (ovf : Tally) (cnt : TickCount) : Timer := { cnt := cnt, ovf := ovf, run := run == 1 }

/-- The lines written as the spec writes them: clock, data, load. -/
def ln (c d l : Nat) : Lines := { dclk := c == 1, ddata := d == 1, dload := l == 1 }

/-- A calibration table written as pairs. -/
def tbl (l : List (Freq × Code)) : List CalEntry := l.map fun p => { freq := p.1, code := p.2 }

/-! ### Well-formedness: each check refuses an ill-formed term -/

/-- R84 (a): the reserved opcode. -/
theorem test_legal_refuses_reserved : legalWord 0xB0 = false ∧ legalWord 0xBF = false := by decide
/-- R84 (b), V6.18: an operand where none is allowed. -/
theorem test_legal_refuses_arg :
    ∀ w ∈ [0x01#8, 0x1F#8, 0x2A#8, 0x61#8, 0x75#8, 0x88#8, 0x9C#8, 0xA1#8, 0xC3#8], legalWord w = false := by decide
/-- R84 (c), V1.22, V6.18: mask bits 3:2 not zero. -/
theorem test_legal_refuses_mask : ∀ w ∈ [0x34#8, 0x47#8, 0x5C#8, 0x54#8], legalWord w = false := by decide
/-- R83: 69 of the 256 words are legal. -/
theorem test_legal_count : ((List.range 256).filter fun n => legalWord (BitVec.ofNat 8 n)).length = 69 := by decide
/-- R10 (e): a micro-program with one illegal word, in an address never reached, is not legal; the spec's two are. -/
theorem test_uprog_refuses : uprogLegal (canonicalProgram.set 15 0xB0) = false ∧ uprogLegal canonicalProgram = true
    ∧ uprogLegal gatedStartProgram = true := by decide
/-- T0 is well-formed. -/
theorem test_params_accepts : exampleParams.wellFormed = true := by decide
/-- R10 (a): a product of 0, and one of 2^32. -/
theorem test_params_refuses_knum : ({ exampleParams with precision := 0 } : Params).wellFormed = false
    ∧ ({ exampleParams with tickRate := 65536, precision := 65536 } : Params).wellFormed = false := by decide
/-- R10 (b): 17 calibration entries. -/
theorem test_params_refuses_cal :
    ({ exampleParams with cal := List.replicate 17 0 } : Params).wellFormed = false := by decide
/-- R10 (c): T_DIV = 0, T_MIN > T_MAX, T_MAX = 65535. -/
theorem test_params_refuses_default_form : ({ exampleParams with tDiv := 0 } : Params).wellFormed = false
    ∧ ({ exampleParams with tMin := 101 } : Params).wellFormed = false
    ∧ ({ exampleParams with tMax := 65535 } : Params).wellFormed = false := by decide
/-- R10 (d): a threshold above T_MAX (P1), below T_MIN (P1), and one that rises (P2), by 1 beyond each bound. -/
theorem test_params_refuses_steps :
    ({ exampleParams with thresh := .steps 101 [] } : Params).wellFormed = false
    ∧ ({ exampleParams with thresh := .steps 50 [⟨1000, 9⟩] } : Params).wellFormed = false
    ∧ ({ exampleParams with thresh := .steps 50 [⟨1000, 20⟩, ⟨2000, 21⟩] } : Params).wellFormed = false
    ∧ ({ exampleParams with thresh := .steps 50 [⟨1000, 51⟩] } : Params).wellFormed = false := by decide
/-- R10 (d): functions with P1 and P2 are accepted however they are written: at the bounds, pieces out of order, a base
that no frequency takes. -/
theorem test_params_accepts_steps :
    ({ exampleParams with thresh := .steps 100 [⟨1000, 40⟩, ⟨2000, 10⟩] } : Params).wellFormed = true
    ∧ ({ exampleParams with thresh := .steps 50 [⟨2000, 30⟩, ⟨1000, 20⟩] } : Params).wellFormed = true
    ∧ ({ exampleParams with thresh := .steps 101 [⟨0, 50⟩] } : Params).wellFormed = true := by decide
/-- R10: an ill-formed configuration gets no meaning. -/
theorem test_step_refuses :
    stopOf (step { State.reset with params := { exampleParams with tDiv := 0 } }) = some (.inr .illFormedConfiguration)
    ∧ stopOf (step { State.reset with params := { exampleParams with thresh := .steps 9 [] } })
      = some (.inr .illFormedConfiguration) := by decide

/-! ### Decoding: words written out from the table of R83, two for each form with an operand -/

theorem test_decode_nop : decode 0b00000000#8 = .instr .nop := by decide
theorem test_decode_inh : decode 0b00010000#8 = .instr .inh := by decide
theorem test_decode_ena : decode 0b00100000#8 = .instr .ena := by decide
theorem test_decode_tstop : decode 0b00110001#8 = .instr (.tstop 1) ∧ decode 0b00110010#8 = .instr (.tstop 2) := by decide
theorem test_decode_trst : decode 0b01000001#8 = .instr (.trst 1) ∧ decode 0b01000010#8 = .instr (.trst 2) := by decide
theorem test_decode_tstart : decode 0b01010000#8 = .instr (.tstart 0) ∧ decode 0b01010010#8 = .instr (.tstart 2) := by decide
theorem test_decode_pcclr : decode 0b01100000#8 = .instr .pcclr := by decide
theorem test_decode_est : decode 0b01110000#8 = .instr .est := by decide
theorem test_decode_itp : decode 0b10000000#8 = .instr .itp := by decide
theorem test_decode_dinit : decode 0b10010000#8 = .instr .dinit := by decide
theorem test_decode_dwr : decode 0b10100000#8 = .instr .dwr := by decide
theorem test_decode_waitc : decode 0b11000000#8 = .instr .waitc := by decide
theorem test_decode_jmp : decode 0b11010001#8 = .instr (.jmp 1) ∧ decode 0b11011100#8 = .instr (.jmp 12) := by decide
theorem test_decode_ldf : decode 0b11101010#8 = .instr (.ldf 10) ∧ decode 0b11100010#8 = .instr (.ldf 2) := by decide
theorem test_decode_ldd : decode 0b11111100#8 = .instr (.ldd 12) ∧ decode 0b11110001#8 = .instr (.ldd 1) := by decide
/-- R84: one word of each illegal case, by name. -/
theorem test_decode_illegal : decode 0xB0 = .illegal .reservedOpcode ∧ decode 0x61 = .illegal .argNotZero
    ∧ decode 0x34 = .illegal .maskBitsNotZero := by decide
/-- The decoder answers a micro-op for the legal words only. -/
theorem test_decode_legal : ∀ w : UopWord, (decode w).instr?.isSome = legalWord w := by decide
/-- The host's reading of a table word: V6.11's `LDF A`; a word of more than 8 bits is no micro-op. -/
theorem test_decodeTableWord : decodeTableWord 8 0xEA = some (.ldf 10) ∧ decodeTableWord 8 0xB0 = none
    ∧ decodeTableWord 16 0xEA = none := by decide
/-- The words of the canonical program (R198) encode its micro-ops. -/
theorem test_encode_canonical :
    [.dinit, .pcclr, .ena, .trst 3, .tstart 3, .waitc, .inh, .tstop 3, .est, .itp, .dwr, .jmp 1, .jmp 12, .jmp 13,
      .jmp 14, .jmp 15].map encode = canonicalProgram.toList := by decide

/-! ### Timers (95_test_vectors.md 2.1) -/

/-- V1.1 to V1.5: counting, the carry, a stopped timer, the tally that sticks. -/
theorem test_tick : (tm 1 0 0).tick = tm 1 0 1 ∧ (tm 1 38 255).tick = tm 1 39 0 ∧ (tm 0 38 255).tick = tm 0 38 255
    ∧ (tm 1 65535 255).tick = tm 1 65535 0 ∧ (tm 1 65534 255).tick = tm 1 65535 0 := by decide
/-- V1.10, V1.11: a measurement tick leaves the cadence timer and is not gated by `INH`. -/
theorem test_tickm : (afterTurns { State.reset with mt := tm 1 5 9, ct := tm 1 7 3 } [.tickM]).map
    (fun t => (t.mt, t.ct, t.inh)) = some (tm 1 5 10, tm 1 7 3, true) := by decide
/-- V1.8: a cadence tick. -/
theorem test_tickc : (afterTurns { State.reset with ct := tm 1 100 255 } [.tickC]).map (fun t => (t.mt, t.ct))
    = some (tm 0 0 0, tm 1 101 0) := by decide
/-- V1.12, V1.13. -/
theorem test_tstop : (after { State.reset with mt := tm 1 39 16, ct := tm 1 101 7, upc := 7 } 0x33).map
      (fun t => (t.mt, t.ct, t.upc)) = some (tm 0 39 16, tm 0 101 7, 8)
    ∧ (after { State.reset with mt := tm 1 39 16, ct := tm 1 101 7, upc := 7 } 0x31).map
      (fun t => (t.mt, t.ct, t.upc)) = some (tm 0 39 16, tm 1 101 7, 8) := by decide
/-- V1.14, V1.21: mask 0 advances only, and `UPC` wraps. -/
theorem test_tstop_none : after { State.reset with mt := tm 1 39 16, upc := 15 } 0x30
    = some { ({ State.reset with mt := tm 1 39 16, upc := 15 } : State).withFetchWord 8 0x30 with upc := 0 } := by decide
/-- V1.16: a running timer that is reset keeps running. -/
theorem test_trst_running : (after { State.reset with mt := tm 1 39 16 } 0x41).map (·.mt) = some (tm 1 0 0) := by decide
/-- V1.17. -/
theorem test_trst_cadence : (after { State.reset with mt := tm 0 39 16, ct := tm 0 101 7 } 0x42).map
    (fun t => (t.mt, t.ct)) = some (tm 0 39 16, tm 0 0 0) := by decide
/-- V1.19. -/
theorem test_tstart_cadence : (after { State.reset with upc := 4 } 0x52).map (fun t => (t.mt, t.ct, t.upc))
    = some (tm 0 0 0, tm 1 0 0, 5) := by decide
/-- V1.20 (its first half): the timer resumes from its value. -/
theorem test_tstart_measurement : (after { State.reset with mt := tm 0 39 16 } 0x51).map (·.mt) = some (tm 1 39 16) := by decide

/-! ### Pulse capture (2.2) -/

/-- V2.2, V2.3: the first pulse latches, then starts the timer. -/
theorem test_edge_first :
    (afterTurns { State.reset with inh := false } [.edge]).map
      (fun t => (t.pulseCount, t.snapOvf, t.snapTicks, t.mt)) = some (1, 0, 0, tm 1 0 0)
    ∧ (afterTurns { State.reset with inh := false, mt := tm 1 7 208 } [.edge]).map
      (fun t => (t.pulseCount, t.snapOvf, t.snapTicks, t.mt)) = some (1, 7, 208, tm 1 7 208) := by decide
/-- V2.4, V2.6: a saturated count, and a later pulse, do not start the timer. -/
theorem test_edge_later :
    (afterTurns { State.reset with inh := false, mt := tm 0 7 9, pulseCount := 65535 } [.edge]).map
      (fun t => (t.pulseCount, t.snapOvf, t.snapTicks, t.mt)) = some (65535, 7, 9, tm 0 7 9)
    ∧ (afterTurns { State.reset with inh := false, mt := tm 0 12 34, pulseCount := 3 } [.edge]).map
      (fun t => (t.pulseCount, t.snapOvf, t.snapTicks, t.mt)) = some (4, 12, 34, tm 0 12 34) := by decide
/-- V2.7, V2.8: an inhibited edge changes nothing. -/
theorem test_edge_inhibited : afterTurns State.reset [.edge] = some State.reset := by decide
/-- V2.10. -/
theorem test_pcclr : (after { State.reset with pulseCount := 5, snapOvf := 39, snapTicks := 16, upc := 1 } 0x60).map
    (fun t => (t.pulseCount, t.snapOvf, t.snapTicks, t.upc, t.inh)) = some (0, 0, 0, 2, true) := by decide
/-- V2.11. -/
theorem test_inh : (after { State.reset with inh := false, upc := 6 } 0x10).map (fun t => (t.inh, t.upc))
    = some (true, 7) := by decide
/-- V2.13. -/
theorem test_ena : (after { State.reset with upc := 2 } 0x20).map (fun t => (t.inh, t.upc)) = some (false, 3) := by decide
/-- V2.15, V2.16 (one edge of each): the detector by polarity. -/
theorem test_qualifies : qualifies .rising false true = true ∧ qualifies .rising true false = false
    ∧ qualifies .falling true false = true ∧ qualifies .falling false true = false
    ∧ qualifies .rising true true = false ∧ qualifies .falling false false = false := by decide

/-! ### Estimator (2.3): knum 1105900000 -/

/-- E2 (V3.7), V3.8, V3.9, V3.10, V3.11, V3.3. -/
theorem test_estimate : estimate 1105900000 5 10000 = 442360 ∧ estimate 1105900000 5 10001 = 442360
    ∧ estimate 1105900000 2 1701384 = 650 ∧ estimate 1105900000 2 16777215 = 65
    ∧ estimate 1105900000 65535 16777215 = 4319921 ∧ estimate 1105900000 2 1 = 1105900000 := by decide
/-- E3 (V3.1, V3.2), V3.4, V3.5, V3.6, V3.15. -/
theorem test_estimate_corners : estimate 1105900000 0 0 = 0 ∧ estimate 1105900000 1 25605 = 0
    ∧ estimate 1105900000 2 0 = 0xFFFFFFFF ∧ estimate 1105900000 3 1 = 0xFFFFFFFF
    ∧ estimate 1105900000 10 3 = 0xFFFFFFFF ∧ estimate 1105900000 65535 255 = 0xFFFFFFFF := by decide
/-- V3.7 through the micro-op. -/
theorem test_est : (after { State.reset with pulseCount := 5, snapOvf := 39, snapTicks := 16 } 0x70).map
    (fun t => (t.freq, t.pulseCount, t.snapOvf, t.upc)) = some (442360, 5, 39, 1) := by decide

/-! ### Interpolator (2.4) -/

/-- E1, and the ends of the table T0. -/
theorem test_interp_t0 : ([0, 299, 300, 650, 999, 1000, 0xFFFFFFFF].map
    (interp (tbl [(0, 0), (300, 20), (1000, 64)]))) = [0, 19, 20, 42, 63, 64, 64] := by decide
/-- V4.2: falling codes. -/
theorem test_interp_falling : ([0, 1, 250, 333, 500, 999, 1000].map (interp (tbl [(0, 4095), (1000, 0)])))
    = [4095, 4091, 3072, 2732, 2048, 5, 0] := by decide
/-- V4.3, V4.4, V4.6: duplicate frequencies. -/
theorem test_interp_duplicates :
    ([299, 300, 301, 650].map (interp (tbl [(0, 0), (300, 20), (300, 30), (1000, 64)]))) = [19, 20, 30, 47]
    ∧ ([999, 1000, 1001].map (interp (tbl [(0, 0), (1000, 50), (1000, 64)]))) = [49, 64, 64]
    ∧ ([499, 500, 501].map (interp (tbl [(500, 10), (500, 20)]))) = [10, 20, 20] := by decide
/-- V4.5, V4.7: one entry, and none. -/
theorem test_interp_short : ([0, 100, 101].map (interp (tbl [(100, 7)]))) = [7, 7, 7] ∧ interp [] 5 = 0 := by decide
/-- V4.8, V4.9, V4.11: tables that are not well-ordered, and the largest product. -/
theorem test_interp_odd :
    ([200, 300, 400, 500, 600, 700].map (interp (tbl [(0, 0), (500, 10), (300, 20), (1000, 64)])))
      = [4, 6, 8, 10, 38, 45]
    ∧ ([0, 500, 2000].map (interp (tbl [(1000, 5), (0, 9)]))) = [9, 9, 9]
    ∧ interp (tbl [(0, 0), (0xFFFFFFFF, 4095)]) 0xFFFFFFFE = 4094 := by decide
/-- V4.10. -/
theorem test_itp : (after { State.reset with din := 0xF123, freq := 650 } 0x80).map (fun t => (t.din, t.freq, t.upc))
    = some (0x002A, 650, 1) := by decide
/-- R90: the entry (300, 20) is the word 0x0000012C0014; bits 15:12 are ignored on read. -/
theorem test_cal_word : calWordOfEntry ⟨300, 20⟩ = 0x0000012C0014 ∧ calEntryOfWord 0x0000012CF014 = ⟨300, 20⟩ := by decide

/-! ### DAC driver (2.5) -/

/-- V5.1, V5.2. -/
theorem test_dinit : (after State.reset 0x90).map (fun t => (t.lines, t.trace, t.upc))
      = some (ln 0 0 1, [ln 0 0 1, ln 0 0 1, ln 0 0 1], 1)
    ∧ (after { State.reset with lines := ln 1 1 1 } 0x90).map (·.trace)
      = some [ln 0 1 1, ln 0 0 1, ln 0 0 1] := by decide
/-- V5.3: the 39 entries, and what the step leaves. -/
theorem test_dwr : (after { State.reset with din := 0x002A } 0xA0).map
      (fun t => (t.trace, t.lines, t.dacOut, t.sr, t.bitCnt, t.din))
    = some (
      [ln 0 0 1, ln 0 0 1, ln 1 0 1, ln 0 0 1, ln 0 0 1, ln 1 0 1, ln 0 0 1, ln 0 0 1, ln 1 0 1,
       ln 0 0 1, ln 0 0 1, ln 1 0 1, ln 0 0 1, ln 0 0 1, ln 1 0 1, ln 0 0 1, ln 0 0 1, ln 1 0 1,
       ln 0 0 1, ln 0 1 1, ln 1 1 1, ln 0 1 1, ln 0 0 1, ln 1 0 1, ln 0 0 1, ln 0 1 1, ln 1 1 1,
       ln 0 1 1, ln 0 0 1, ln 1 0 1, ln 0 0 1, ln 0 1 1, ln 1 1 1, ln 0 1 1, ln 0 0 1, ln 1 0 1,
       ln 0 0 1, ln 0 0 0, ln 0 0 1], ln 0 0 1, 0x02A, 0, 0, 0x002A) := by decide
/-- V5.4, V5.5: the mask, the data line left at the last bit, the receiver. -/
theorem test_dwr_masks :
    (after { State.reset with din := 0x1ABC } 0xA0).map (fun t => (t.dacOut, (recv t.trace).out, t.lines))
      = some (0xABC, some 0xABC, ln 0 0 1)
    ∧ (after { State.reset with din := 0x0FFF } 0xA0).map (fun t => (t.dacOut, (recv t.trace).out, t.lines))
      = some (0xFFF, some 0xFFF, ln 0 1 1)
    ∧ (after { State.reset with lines := ln 0 1 1 } 0xA0).map (fun t => t.trace.take 3)
      = some [ln 0 1 1, ln 0 0 1, ln 1 0 1] := by decide
/-- V5.6, V5.7: a receiver latches the last twelve bits, and nothing without a load edge. -/
theorem test_recv : (afterAll { State.reset with din := 0x0FFF } [0xA0, 0xF0, 0xF0, 0xF0, 0xA0]).map
      (fun t => (t.trace.length, (recv t.trace).out, (recv (t.trace.take 39)).out)) = some (78, some 0, some 0xFFF)
    ∧ (recv [ln 0 0 1, ln 0 0 1, ln 0 0 1]).out = none := by decide
/-- R180: fewer than twelve bits latch as unknown. -/
theorem test_recv_short : (recv [ln 0 1 1, ln 1 1 1, ln 0 1 0, ln 0 1 1]).out = none := by decide
/-- V5.3: with duplicates removed, 33 entries, the starting triple among them. -/
theorem test_wire_changes : (after { State.reset with din := 0x002A } 0xA0).map
    (fun t => (ln 0 0 1 :: wireChanges (ln 0 0 1) t.trace).length) = some 33 := by decide

/-! ### Sequencer (2.6) -/

/-- V6.1, V6.2. -/
theorem test_nop : (after { State.reset with upc := 4 } 0x00).map (·.upc) = some 5
    ∧ (after { State.reset with upc := 15 } 0x00).map (·.upc) = some 0 := by decide
/-- V6.3, V6.4. -/
theorem test_jmp : (after { State.reset with upc := 11 } 0xD1).map (·.upc) = some 1
    ∧ (after { State.reset with upc := 12 } 0xDC).map (fun t => (t.upc, t.halted)) = some (12, true) := by decide
/-- V6.5, V6.6, V6.10. -/
theorem test_waitc : (after { State.reset with ct := tm 0 100 0, upc := 5 } 0xC0).map (·.upc) = some 5
    ∧ (after { State.reset with ct := tm 0 101 0, upc := 5 } 0xC0).map (·.upc) = some 6
    ∧ (after { State.reset with ct := tm 0 65535 0, upc := 5 } 0xC0).map (·.upc) = some 6 := by decide
/-- V6.7, V6.8. -/
theorem test_waitc_adaptive :
    (after { State.reset with ct := tm 0 10 0, freq := 442360, upc := 5 } 0xC0).map (·.upc) = some 5
    ∧ (after { State.reset with ct := tm 0 11 0, freq := 442360, upc := 5 } 0xC0).map (·.upc) = some 6 := by decide
/-- V6.20. -/
theorem test_threshold : ([0, 650, 999, 1000, 50000, 89999, 90000, 90001, 442360, 0xFFFFFFFF].map
    (threshold exampleParams)) = [100, 100, 100, 99, 50, 11, 10, 10, 10, 10] := by decide
/-- V6.21. -/
theorem test_threshold_bounds : ([0, 1, 0xFFFFFFFF].map (linearThreshold 7 7 3)) = [7, 7, 7]
    ∧ ([0, 65533, 65534, 0xFFFFFFFF].map (linearThreshold 0 65534 1)) = [65534, 1, 0, 0] := by decide
/-- A threshold given by its pieces, at their starts. -/
theorem test_threshold_steps : ([0, 999, 1000, 1999, 2000].map (steppedThreshold 50 [⟨1000, 40⟩, ⟨2000, 10⟩]))
    = [50, 50, 40, 40, 10] := by decide
/-- V6.11, V6.12. -/
theorem test_ldf : (after { State.reset with freq := 0x00000028 } 0xEA).map (·.freq) = some 650
    ∧ (afterAll { State.reset with freq := 0xDEADBEEF } [0xE2, 0xE8, 0xEA]).map (·.freq) = some 0xDBEEF28A := by decide
/-- V6.14, V6.15. -/
theorem test_ldd : (after { State.reset with din := 0x01AB } 0xFC).map (·.din) = some 0x1ABC
    ∧ (afterAll { State.reset with din := 0xFFFF } [0xF1, 0xFA]).map (·.din) = some 0xFF1A := by decide
/-- V6.16, V6.17: an illegal word raises SeqFault and does nothing else; the sequencer is then stuck. -/
theorem test_illegal : after { State.reset with upc := 2 } 0xB0
      = some { ({ State.reset with upc := 2 } : State).withFetchWord 8 0xB0 with seqFault := true }
    ∧ (after { State.reset with pulseCount := 5 } 0x61).map (fun t => (t.seqFault, t.pulseCount, t.upc, stopOf (step t)))
      = some (true, 5, 0, some (.inl .sequencerStuck)) := by decide

/-! ### Status, reset, the clocked reference (2.7, 2.8) -/

/-- V7.1 to V7.5. -/
theorem test_cstate : State.reset.outputs.cstate = 2
    ∧ ({ State.reset with inh := false } : State).outputs.cstate = 0
    ∧ ({ State.reset with inh := false, pulseCount := 1 } : State).outputs.cstate = 1
    ∧ ({ State.reset with pulseCount := 5 } : State).outputs.cstate = 2
    ∧ ({ State.reset with seqFault := true, inh := false, pulseCount := 5 } : State).outputs.cstate = 3 := by decide
/-- V7.6, V7.7: RESET from a faulted state; a following sample at the same level is no edge. -/
theorem test_reset : afterTurns { State.reset with seqFault := true, upc := 3, freq := 9, trace := [ln 0 0 1] } [.reset true]
      = some { State.reset with pinPrev := true }
    ∧ (afterTurns State.reset [.reset true, .sample ⟨true, true, false, false, false⟩]).map (·.schedule)
      = some [] := by decide
/-- R250, R228: a sample with `rst_n` = 0 is RESET and nothing else. -/
theorem test_sample_reset : afterTurns { State.reset with upc := 3 } [.sample ⟨false, true, true, true, true⟩]
    = some { State.reset with pinPrev := true } := by decide

/-- The state after a sample and the turns it brings. -/
def afterCycle (s : State) (p : PortSample) (turns : Nat) (w : Nat) : Option State :=
  nextOf (Host.Core.run Sys2Proof.core (turns + 1) { s.withFetchWord 8 w with schedule := [.sample p] })

/-- V8.1, V8.2: an edge latches the value before the tick; a timer it starts counts the tick. -/
theorem test_cycle_edge_tick :
    (afterCycle { State.reset with inh := false, mt := tm 1 5 255, pulseCount := 3 } ⟨true, true, true, false, false⟩ 2 0).map
      (fun t => (t.snapOvf, t.snapTicks, t.pulseCount, t.mt)) = some (5, 255, 4, tm 1 6 0)
    ∧ (afterCycle { State.reset with inh := false } ⟨true, true, true, false, false⟩ 2 0).map
      (fun t => (t.snapOvf, t.snapTicks, t.pulseCount, t.mt)) = some (0, 0, 1, tm 1 0 1) := by decide
/-- V8.3, V8.7: the tick precedes the micro-op. -/
theorem test_cycle_tick_seq :
    (afterCycle { State.reset with mt := tm 1 5 255 } ⟨true, false, true, false, true⟩ 2 0x41).map (·.mt) = some (tm 1 0 0)
    ∧ (afterCycle { State.reset with mt := tm 1 5 9 } ⟨true, false, true, false, true⟩ 2 0x31).map (·.mt)
      = some (tm 0 5 10) := by decide
/-- V8.4, V8.5: the edge precedes the micro-op. -/
theorem test_cycle_edge_seq :
    (afterCycle { State.reset with inh := false, pulseCount := 3 } ⟨true, true, false, false, true⟩ 2 0x10).map
      (fun t => (t.pulseCount, t.inh)) = some (4, true)
    ∧ (afterCycle State.reset ⟨true, true, false, false, true⟩ 2 0x20).map (fun t => (t.pulseCount, t.inh))
      = some (0, false) := by decide
/-- V8.6: a tick and the poll it trips. -/
theorem test_cycle_tickc_waitc :
    (afterCycle { State.reset with ct := tm 1 100 255, upc := 5 } ⟨true, false, false, true, true⟩ 2 0xC0).map
      (fun t => (t.ct, t.upc)) = some (tm 1 101 0, 6) := by decide

/-! ### Assembler (30_encoding.md R86, R87) -/

/-- Program P1 (95_test_vectors.md 3), written with a pseudo-op, a comment, addresses and `HALT`. -/
theorem test_assemble : assemble (
    ["LDD16 0x1ABC ; the mask test".toList, "4: DWR".toList, "5: HALT".toList]
      ++ ["HALT".toList, "HALT".toList, "HALT".toList, "HALT".toList, "HALT".toList, "HALT".toList, "HALT".toList,
        "HALT".toList, "HALT".toList, "HALT".toList])
    = some #v[0xF1, 0xFA, 0xFB, 0xFC, 0xA0, 0xD5, 0xD6, 0xD7, 0xD8, 0xD9, 0xDA, 0xDB, 0xDC, 0xDD, 0xDE, 0xDF] := by decide
/-- A jump to a label, and the masks. -/
theorem test_parse : parseLine "TSTOP MC".toList = some (.code none (.op (.tstop 3)))
    ∧ parseLine "B: JMP 1".toList = some (.code (some 11) (.op (.jmp 1)))
    ∧ parseLine "loop:".toList = some (.label "loop".toList)
    ∧ parseLine "JMP loop".toList = some (.code none (.jmpLabel "loop".toList)) := by decide

end Sys2Proof.Tests
end

