-- ==== Sys2Proof/Tests/Witnesses.lean ====
section
/-! SUPPORT. For every statement of Sys2Proof/Certificates/Slice0/Obligations.lean that has hypotheses, concrete states
and operands that meet them together: one for each clause, at the boundary values where clauses meet. -/

namespace Sys2Proof.Tests

open Sys2Proof Sys2Proof.Machine

/-- A run is there if evaluating it gives a state. -/
theorem run_of_isSome {k : Nat} {s : State} (h : (nextOf (Host.Core.run Sys2Proof.core k s)).isSome = true) :
    ∃ t, Run k s t := by
  unfold Run
  cases hr : Host.Core.run Sys2Proof.core k s with
  | next t => exact ⟨t, rfl⟩
  | fault r => rw [hr] at h; cases h
  | refused r => rw [hr] at h; cases h

/-- A step is there, with a property of its next state, if evaluating it says so. -/
theorem step_of_any {s : State} {p : State → Bool} (h : (nextOf (step s)).any p = true) :
    ∃ t, step s = .next t ∧ p t = true := by
  cases hr : step s with
  | next t => rw [hr] at h; exact ⟨t, rfl, h⟩
  | fault r => rw [hr] at h; cases h
  | refused r => rw [hr] at h; cases h

/-- The state after reset with one turn scheduled. -/
def at1 (turn : Turn) : State := { State.reset with schedule := [turn] }

/-- The state after reset about to run a word. -/
def atWord (w : Nat) : State := State.reset.withFetchWord 8 w

/-! ### The step -/

theorem witness_StepRunsDecodedMicroOp : State.reset.params.wellFormed = true ∧ State.reset.nextTurn = .seq
    ∧ State.reset.seqFault = false ∧ decode State.reset.fetch = .instr .dinit := by decide
theorem witness_IllegalWordRaisesSeqFault : (atWord 0xB0).params.wellFormed = true ∧ (atWord 0xB0).nextTurn = .seq
    ∧ (atWord 0xB0).seqFault = false ∧ decode (atWord 0xB0).fetch = .illegal .reservedOpcode := by decide
theorem witness_StepStopsOnlyForFaultedSequencer :
    (State.reset.raiseSeqFault.params.wellFormed = true ∧ State.reset.raiseSeqFault.nextTurn = .seq
      ∧ State.reset.raiseSeqFault.seqFault = true)
    ∧ (State.reset.params.wellFormed = true ∧ ¬(State.reset.nextTurn = .seq ∧ State.reset.seqFault = true))
    ∧ ((at1 .edge).raiseSeqFault.params.wellFormed = true ∧ ¬(at1 .edge).raiseSeqFault.nextTurn = .seq) := by decide
/-- Both sides of the equivalence, at the ends of each range, for both forms of the threshold. -/
theorem witness_IllFormedConfigurationIsRefused : exampleParams.thresh = .linearClamp
    ∧ ({ exampleParams with tickRate := 2 ^ 32 - 1, precision := 1 } : Params).wellFormed = true
    ∧ ({ exampleParams with cal := List.replicate 16 0 } : Params).wellFormed = true
    ∧ ({ exampleParams with tDiv := 1, tMin := 65534, tMax := 65534 } : Params).wellFormed = true
    ∧ ({ exampleParams with tickRate := 2 ^ 32, precision := 1 } : Params).wellFormed = false
    ∧ ({ exampleParams with tMax := 65535 } : Params).wellFormed = false
    ∧ ({ exampleParams with thresh := .steps 100 [⟨1000, 10⟩] } : Params).wellFormed = true
    ∧ ({ exampleParams with thresh := .steps 100 [⟨1000, 9⟩] } : Params).wellFormed = false
    ∧ ({ exampleParams with thresh := .steps 50 [⟨1000, 51⟩] } : Params).wellFormed = false := by decide

/-! ### The adaptive threshold -/

/-- Both forms, and a pair of frequencies across a step of each. -/
theorem witness_ThresholdIsBoundedAndNonIncreasing : exampleParams.wellFormed = true
    ∧ ({ exampleParams with thresh := .steps 50 [⟨1000, 40⟩, ⟨2000, 10⟩] } : Params).wellFormed = true
    ∧ (999#32).toNat ≤ (1000#32).toNat := by decide
theorem witness_EveryAdmittedThresholdHasData :
    (∀ f : Freq, exampleParams.tMin.toNat ≤ ((fun _ => 50 : Freq → Tally) f).toNat
      ∧ ((fun _ => 50 : Freq → Tally) f).toNat ≤ exampleParams.tMax.toNat)
    ∧ ∀ f f' : Freq, f.toNat ≤ f'.toNat →
      ((fun _ => 50 : Freq → Tally) f').toNat ≤ ((fun _ => 50 : Freq → Tally) f).toNat :=
  ⟨fun _ => ⟨show 10 ≤ 50 by omega, show 50 ≤ 100 by omega⟩, fun _ _ _ => Nat.le_refl _⟩
/-- And the two sides of the bound: 90000 / 1000 = T_MAX - T_MIN, 89999 / 1000 is one less. -/
theorem witness_DefaultThresholdForm : exampleParams.wellFormed = true ∧ exampleParams.thresh = .linearClamp
    ∧ exampleParams.tMax.toNat - exampleParams.tMin.toNat ≤ 90000 / exampleParams.tDiv.toNat
    ∧ ¬exampleParams.tMax.toNat - exampleParams.tMin.toNat ≤ 89999 / exampleParams.tDiv.toNat := by decide

/-! ### Timers -/

theorem witness_TickCountsInRunningTimer :
    ((at1 .tickM).params.wellFormed = true ∧ (at1 .tickM).schedule = .tickM :: [])
    ∧ ((at1 .tickC).params.wellFormed = true ∧ (at1 .tickC).schedule = .tickC :: []) := by decide

/-- A state with the Measurement Timer running from zero and `n` ticks to come. -/
def mtTicks (n : Nat) : State := { State.reset with mt := tm 1 0 0, schedule := List.replicate n .tickM }

/-- A state with the Cadence Timer running from zero and `n` ticks to come. -/
def ctTicks (n : Nat) : State := { State.reset with ct := tm 1 0 0, schedule := List.replicate n .tickC }

theorem run_of_ticksM : ∀ (n : Nat) (s : State), s.params.wellFormed = true → s.schedule = List.replicate n .tickM →
    s.mt.run = true → (∃ t, Run n s t) ∧ countSteps State.countsMTNext n s = n
      ∧ neverSteps State.clearsMTNext n s = true := by
  intro n
  induction n with
  | zero => intro s _ _ _; exact ⟨⟨s, rfl⟩, rfl, rfl⟩
  | succ n ih =>
    intro s hw hs hr
    have hn : s.nextTurn = .tickM := by simp [State.nextTurn, hs, List.replicate_succ]
    have hst : step s = .next s.takeTurn.tickM := by
      simp only [step, hw, if_true, hn, turnStep]
    have ht : s.takeTurn.tickM.mt.run = true := by
      have : ∀ x : Timer, x.tick.run = x.run := fun x => by unfold Timer.tick; split <;> [split; skip] <;> rfl
      exact (this s.mt).trans hr
    obtain ⟨⟨t, h1⟩, h2, h3⟩ := ih s.takeTurn.tickM hw (by simp [State.tickM, State.takeTurn, hs, List.replicate_succ]) ht
    have hcore : Sys2Proof.core.step s = .next s.takeTurn.tickM := hst
    refine ⟨⟨t, ?_⟩, ?_, ?_⟩
    · unfold Run at h1 ⊢
      simp only [Host.Core.run, hcore]
      exact h1
    · simp only [countSteps, hst, h2]
      simp [State.countsMTNext, hn, hr, Nat.add_comm]
    · simp only [neverSteps, hst, h3]
      simp [State.clearsMTNext, State.resetsNext, State.nextOp, hn]

theorem run_of_ticksC : ∀ (n : Nat) (s : State), s.params.wellFormed = true → s.schedule = List.replicate n .tickC →
    s.ct.run = true → (∃ t, Run n s t) ∧ countSteps State.countsCTNext n s = n
      ∧ neverSteps State.clearsCTNext n s = true := by
  intro n
  induction n with
  | zero => intro s _ _ _; exact ⟨⟨s, rfl⟩, rfl, rfl⟩
  | succ n ih =>
    intro s hw hs hr
    have hn : s.nextTurn = .tickC := by simp [State.nextTurn, hs, List.replicate_succ]
    have hst : step s = .next s.takeTurn.tickC := by
      simp only [step, hw, if_true, hn, turnStep]
    have ht : s.takeTurn.tickC.ct.run = true := by
      have : ∀ x : Timer, x.tick.run = x.run := fun x => by unfold Timer.tick; split <;> [split; skip] <;> rfl
      exact (this s.ct).trans hr
    obtain ⟨⟨t, h1⟩, h2, h3⟩ := ih s.takeTurn.tickC hw (by simp [State.tickC, State.takeTurn, hs, List.replicate_succ]) ht
    have hcore : Sys2Proof.core.step s = .next s.takeTurn.tickC := hst
    refine ⟨⟨t, ?_⟩, ?_, ?_⟩
    · unfold Run at h1 ⊢
      simp only [Host.Core.run, hcore]
      exact h1
    · simp only [countSteps, hst, h2]
      simp [State.countsCTNext, hn, hr, Nat.add_comm]
    · simp only [neverSteps, hst, h3]
      simp [State.clearsCTNext, State.resetsNext, State.nextOp, hn]

/-- The largest number of ticks of the first clause and the smallest of the second, for each timer. -/
theorem witness_TimerHoldsElapsedTicks :
    ((∃ t, Run 16777215 (mtTicks 16777215) t) ∧ (mtTicks 16777215).mt.ovf = 0 ∧ (mtTicks 16777215).mt.cnt = 0
      ∧ neverSteps State.clearsMTNext 16777215 (mtTicks 16777215) = true
      ∧ countSteps State.countsMTNext 16777215 (mtTicks 16777215) ≤ 16777215)
    ∧ ((∃ t, Run 16777216 (mtTicks 16777216) t) ∧ (mtTicks 16777216).mt.ovf = 0 ∧ (mtTicks 16777216).mt.cnt = 0
      ∧ neverSteps State.clearsMTNext 16777216 (mtTicks 16777216) = true
      ∧ 16777215 < countSteps State.countsMTNext 16777216 (mtTicks 16777216))
    ∧ ((∃ t, Run 16777215 (ctTicks 16777215) t) ∧ (ctTicks 16777215).ct.ovf = 0 ∧ (ctTicks 16777215).ct.cnt = 0
      ∧ neverSteps State.clearsCTNext 16777215 (ctTicks 16777215) = true
      ∧ countSteps State.countsCTNext 16777215 (ctTicks 16777215) ≤ 16777215)
    ∧ ((∃ t, Run 16777216 (ctTicks 16777216) t) ∧ (ctTicks 16777216).ct.ovf = 0 ∧ (ctTicks 16777216).ct.cnt = 0
      ∧ neverSteps State.clearsCTNext 16777216 (ctTicks 16777216) = true
      ∧ 16777215 < countSteps State.countsCTNext 16777216 (ctTicks 16777216)) := by
  have hm := fun n => run_of_ticksM n (mtTicks n) (show exampleParams.wellFormed = true by decide) rfl rfl
  have hc := fun n => run_of_ticksC n (ctTicks n) (show exampleParams.wellFormed = true by decide) rfl rfl
  refine ⟨⟨(hm _).1, rfl, rfl, (hm _).2.2, (hm _).2.1.le⟩, ⟨(hm _).1, rfl, rfl, (hm _).2.2, ?_⟩,
    ⟨(hc _).1, rfl, rfl, (hc _).2.2, (hc _).2.1.le⟩, ⟨(hc _).1, rfl, rfl, (hc _).2.2, ?_⟩⟩
  · rw [(hm _).2.1]; decide
  · rw [(hc _).2.1]; decide

/-- A running timer of each kind is stopped; each is started, the Measurement Timer also by a first edge. -/
theorem witness_RunFlagsChangeOnlyByTheirCauses :
    (∃ t, step { atWord 0x31 with mt := tm 1 5 9 } = .next t ∧ (!t.mt.run) = true)
    ∧ (∃ t, step { atWord 0x32 with ct := tm 1 5 9 } = .next t ∧ (!t.ct.run) = true)
    ∧ (∃ t, step (atWord 0x51) = .next t ∧ t.mt.run = true)
    ∧ (∃ t, step { at1 .edge with inh := false } = .next t ∧ t.mt.run = true)
    ∧ (∃ t, step (atWord 0x52) = .next t ∧ t.ct.run = true) :=
  ⟨step_of_any (p := fun t => !t.mt.run) (by decide), step_of_any (p := fun t => !t.ct.run) (by decide),
    step_of_any (p := fun t => t.mt.run) (by decide), step_of_any (p := fun t => t.mt.run) (by decide),
    step_of_any (p := fun t => t.ct.run) (by decide)⟩

/-- The two runs are there. -/
theorem witness_TicksOfTheTwoTimersCommute : (∃ t, Run 2 { State.reset with schedule := [.tickM, .tickC] } t)
    ∧ ∃ t, Run 2 { State.reset with schedule := [.tickC, .tickM] } t :=
  ⟨run_of_isSome (by decide), run_of_isSome (by decide)⟩

/-! ### Pulse capture -/

theorem witness_EdgeIsCapturedUnlessInhibited :
    ((at1 .edge).params.wellFormed = true ∧ (at1 .edge).schedule = .edge :: [] ∧ (at1 .edge).inh = true)
    ∧ ({ at1 .edge with inh := false, pulseCount := 65535 } : State).inh = false := by decide
theorem witness_InhSetsTheInhibit : State.reset.inh = true := by decide
theorem witness_EnaClearsTheInhibit : ({ State.reset with inh := false } : State).inh = false := by decide

/-- Two edges captured and one tick in three steps, from a count one below saturation. -/
def twoEdges : State :=
  { State.reset with inh := false, pulseCount := 65534, mt := tm 1 5 9, schedule := [.edge, .tickM, .edge] }

theorem witness_PulseCountIsCapturedEdges : (∃ t, Run 3 twoEdges t)
    ∧ neverSteps State.clearsCountNext 3 twoEdges = true ∧ countSteps State.capturesNext 3 twoEdges = 2 :=
  ⟨run_of_isSome (by decide), by decide, by decide⟩
/-- A run with a captured edge, whose last is taken at (5, 10), and a run without. -/
theorem witness_SnapshotIsTimerAtLastCapturedEdge : ((∃ t, Run 3 twoEdges t)
    ∧ neverSteps State.clearsCountNext 3 twoEdges = true
    ∧ (lastStep State.capturesNext 3 twoEdges).map (·.mt) = some (tm 1 5 10))
    ∧ ((∃ t, Run 1 (at1 .edge) t) ∧ neverSteps State.clearsCountNext 1 (at1 .edge) = true
      ∧ lastStep State.capturesNext 1 (at1 .edge) = none) :=
  ⟨⟨run_of_isSome (by decide), by decide, by decide⟩, run_of_isSome (by decide), by decide, by decide⟩
theorem witness_InhibitFreezesTheCapture : (∃ t, Run 3 { twoEdges with inh := true } t)
    ∧ ({ twoEdges with inh := true } : State).inh = true
    ∧ neverSteps State.endsInhibitNext 3 { twoEdges with inh := true } = true :=
  ⟨run_of_isSome (by decide), by decide, by decide⟩

/-! ### The clocked reference -/

theorem witness_SampleOrdersTheCycle : (at1 (.sample ⟨true, true, true, true, true⟩)).params.wellFormed = true
    ∧ (at1 (.sample ⟨true, true, true, true, true⟩)).schedule = .sample ⟨true, true, true, true, true⟩ :: [] := by decide
theorem witness_CycleRunsEdgeTicksThenMicroOp :
    let s : State := { at1 (.sample ⟨true, true, true, true, true⟩) with inh := false }
    s.params.wellFormed = true ∧ s.params.pol = .rising ∧ s.pinPrev = false ∧ s.inh = false ∧ s.seqFault = false
      ∧ decode s.fetch = .instr .dinit
      ∧ s.schedule = .sample { rstN := true, pulseIn := true, tickM := true, tickC := true, seqDone := true } :: [] := by
  decide

/-! ### Frequency estimator -/

/-- The three clauses, the first two at the pulse counts 1 and 2 where they meet. -/
theorem witness_EstWritesTheEstimate :
    ({ State.reset with pulseCount := 1 } : State).pulseCount.toNat ≤ 1
    ∧ (2 ≤ ({ State.reset with pulseCount := 2 } : State).pulseCount.toNat
      ∧ (State.reset.snapOvf.toNat * 256 + State.reset.snapTicks.toNat) / (2 - 1) = 0)
    ∧ (State.reset.params.wellFormed = true ∧ (0 * 256 + (1#8).toNat) / ((2#16).toNat - 1) ≠ 0) := by decide
/-- One tick fewer than intervals. -/
theorem witness_ZeroPeriodGivesTheCeiling :
    let s : State := { State.reset with pulseCount := 3, snapTicks := 1 }
    2 ≤ s.pulseCount.toNat ∧ s.snapOvf.toNat * 256 + s.snapTicks.toNat < s.pulseCount.toNat - 1
      ∧ (calTable s.params).getLast? = some ⟨1000, 64⟩ := by decide
/-- At the ends: two pulses and the step from a zero to a nonzero period; the step across the degenerate count. -/
theorem witness_EstimateIsMonotone : (2 ≤ 2 ∧ 0 ≤ 1) ∧ 1 ≤ 2 := by decide

/-! ### Calibration interpolator -/

/-- The table of the spec's example. -/
def t0 : List CalEntry := tbl [(0, 0), (300, 20), (1000, 64)]

/-- A table with a falling segment. -/
def falling : List CalEntry := tbl [(0, 4095), (1000, 0)]

/-- Every clause: ceiling at its first frequency, floor at its last, the upper end of a segment, a rising segment from
its first inner frequency on, a falling segment. -/
theorem witness_InterpFollowsTheRule :
    (t0.head? = some ⟨0, 0⟩ ∧ t0.getLast? = some ⟨1000, 64⟩ ∧ (1000#32).toNat ≤ (1000#32).toNat)
    ∧ ((0#32).toNat < (1000#32).toNat ∧ (0#32).toNat ≤ (0#32).toNat)
    ∧ ((0#32).toNat < (300#32).toNat ∧ (300#32).toNat < (1000#32).toNat ∧ t0[0]? = some ⟨0, 0⟩
      ∧ t0[0 + 1]? = some ⟨300, 20⟩ ∧ (0#32).toNat ≤ (300#32).toNat ∧ (300#32).toNat ≤ (300#32).toNat)
    ∧ (t0[1]? = some ⟨300, 20⟩ ∧ t0[1 + 1]? = some ⟨1000, 64⟩ ∧ (301#32).toNat < (1000#32).toNat
      ∧ (20#12).toNat ≤ (64#12).toNat)
    ∧ (falling.head? = some ⟨0, 4095⟩ ∧ falling.getLast? = some ⟨1000, 0⟩ ∧ falling[0]? = some ⟨0, 4095⟩
      ∧ falling[0 + 1]? = some ⟨1000, 0⟩ ∧ (0#32).toNat < (1#32).toNat ∧ (1#32).toNat < (1000#32).toNat
      ∧ (0#12).toNat < (4095#12).toNat) := by decide
/-- The first segment does not bracket 301, so the second one is the first that does. -/
theorem witness_InterpFollowsTheRule_first : ∀ (j : Nat) (c d : CalEntry), j < 1 → t0[j]? = some c →
    t0[j + 1]? = some d → ¬(c.freq.toNat ≤ (301#32).toNat ∧ (301#32).toNat ≤ d.freq.toNat) := by
  intro j c d hj hc hd
  have h0 : j = 0 := by omega
  subst h0
  cases hc
  cases hd
  decide
theorem witness_InterpLiesInABracketingSegment : t0.head? = some ⟨0, 0⟩ ∧ t0.getLast? = some ⟨1000, 64⟩
    ∧ (0#32).toNat < (650#32).toNat ∧ (650#32).toNat < (1000#32).toNat := by decide
theorem witness_InterpIsMonotone : t0.Pairwise (fun a b => a.freq.toNat ≤ b.freq.toNat ∧ a.code.toNat ≤ b.code.toNat)
    ∧ (300#32).toNat ≤ (301#32).toNat := by decide
/-- The last entry, and an entry below the ceiling. -/
theorem witness_BreakpointsRoundTrip : t0.Pairwise (fun a b => a.freq.toNat ≤ b.freq.toNat)
    ∧ (t0[2]? = some ⟨1000, 64⟩ ∧ 2 + 1 = t0.length)
    ∧ (t0[1]? = some ⟨300, 20⟩ ∧ t0.getLast? = some ⟨1000, 64⟩ ∧ (300#32).toNat < (1000#32).toNat
      ∧ ∀ c, t0[0]? = some c → c.freq ≠ 300) := by
  refine ⟨by decide, by decide, by decide, by decide, by decide, ?_⟩
  intro c hc
  cases hc
  decide

/-! ### Serial DAC driver -/

theorem witness_DwrFrameHasTwelveMsbFirstPulses : State.reset.lines.dload = true
    ∧ (after { State.reset with din := 0x0FFF } 0xA0).map (fun t => (t.trace[0]?, t.trace[1]?, t.trace[37]?))
      = some (some (ln 0 0 1), some (ln 0 1 1), some (ln 0 1 0)) := by decide
theorem witness_DwrIgnoresHighBitsOfDin : (0xF123#16).toNat % 4096
    = ({ State.reset with din := 0x0123 } : State).din.toNat % 4096 := by decide
theorem witness_ReceiverReadsTheFrame : State.reset.lines.dclk = false ∧ State.reset.lines.dload = true
    ∧ State.reset.DacAtRest ∧ State.reset.TraceEndsAtLines := by decide
/-- A `DWR` step, the one that moves the lines. -/
theorem witness_StepKeepsDacAtRest : (atWord 0xA0).DacAtRest ∧ (nextOf (step (atWord 0xA0))).isSome = true := by decide
theorem witness_StepKeepsReceiverInAgreement : (atWord 0xA0).DacAtRest ∧ (atWord 0xA0).TraceEndsAtLines
    ∧ (atWord 0xA0).ReceiverAgrees ∧ (nextOf (step (atWord 0xA0))).isSome = true := by decide
/-- `NOP` for both clauses, `DINIT` for the second. -/
theorem witness_LinesChangeOnlyInDriverOps :
    ((nextOf (step (atWord 0x00))).isSome = true ∧ (atWord 0x00).resetsNext = false
      ∧ (atWord 0x00).nextOp ≠ some .dinit ∧ (atWord 0x00).nextOp ≠ some .dwr)
    ∧ ((nextOf (step (atWord 0x90))).isSome = true ∧ (atWord 0x90).resetsNext = false
      ∧ (atWord 0x90).nextOp ≠ some .dwr) := by decide

/-! ### Control sequencer -/

theorem witness_JmpGoesToItsTarget : (12 : UAddr) = ({ State.reset with upc := 12 } : State).upc := by decide
/-- The two clauses at the tallies where they meet. -/
theorem witness_WaitcPollsTheThreshold :
    (threshold State.reset.params State.reset.freq).toNat < ({ State.reset with ct := tm 0 101 0 } : State).ct.ovf.toNat
    ∧ ({ State.reset with ct := tm 0 100 0 } : State).ct.ovf.toNat
      ≤ (threshold State.reset.params State.reset.freq).toNat := by decide
theorem witness_HaltedSequencerChangesNothing :
    let s : State := { State.reset with upc := 12 }
    s.params.wellFormed = true ∧ s.nextTurn = .seq ∧ s.halted = true := by decide

/-! ### Reset and whole-machine rules -/

/-- From a faulted state, the event and a sample with every other port at 1. -/
theorem witness_ResetStepSetsEveryRegister :
    let s : State := { at1 (.reset true) with seqFault := true, upc := 3 }
    let p : PortSample := { rstN := false, pulseIn := true, tickM := true, tickC := true, seqDone := true }
    (s.params.wellFormed = true ∧ s.schedule = .reset true :: [])
      ∧ ((at1 (.sample p)).params.wellFormed = true ∧ (at1 (.sample p)).schedule = .sample p :: []) := by decide
theorem witness_StepKeepsRomsAndParameters : (nextOf (step State.reset)).isSome = true := by decide
theorem witness_LegalProgramStaysSafe : State.reset.Safe ∧ State.reset.ProgramLegal
    ∧ (nextOf (step State.reset)).isSome = true := by decide
theorem witness_SeqFaultHoldsUntilReset :
    let s : State := { at1 .edge with seqFault := true, inh := false }
    s.seqFault = true ∧ s.resetsNext = false ∧ (nextOf (step s)).isSome = true := by decide
theorem witness_EventsChangeOnlySharedRegisters : ∀ turn ∈ [Turn.edge, .tickM, .tickC],
    (at1 turn).nextTurn = turn ∧ (nextOf (step (at1 turn))).isSome = true := by decide
/-- An event for all three clauses, a `NOP` of the sequencer for the last two. -/
theorem witness_UpcInhAndFreqHaveTheirWriters :
    ((nextOf (step (at1 .tickM))).isSome = true ∧ (at1 .tickM).resetsNext = false ∧ (at1 .tickM).nextTurn ≠ .seq
      ∧ (at1 .tickM).nextOp = none)
    ∧ ((nextOf (step (atWord 0x00))).isSome = true ∧ (atWord 0x00).resetsNext = false
      ∧ (atWord 0x00).nextOp = some .nop) := by decide

end Sys2Proof.Tests
end

/-! The configurations that have a meaning (00_scope.md R10): when a step is refused, and what the check of the
parameters says about the threshold function at every frequency. -/

namespace Sys2Proof.Machine

/-! ### When a step is refused -/

theorem exec_exists_next (i : Instr) (s : State) : ∃ t, exec i s = .next t := by
  cases i <;> exact ⟨_, rfl⟩

/-- No agent's own step is a refusal: the sequencer has a next state or is stuck, every other agent has a next state. -/
theorem turnStep_ne_refused (turn : Turn) (s : State) (r : Refusal) : turnStep turn s ≠ .refused r := by
  cases turn with
  | seq =>
    simp only [turnStep, seqStep]
    cases s.seqFault with
    | true => simp
    | false =>
      cases decode s.fetch with
      | instr i =>
        obtain ⟨t, ht⟩ := exec_exists_next i s
        simp [ht]
      | illegal why => simp
  | edge => simp [turnStep]
  | tickM => simp [turnStep]
  | tickC => simp [turnStep]
  | reset pulseIn => simp [turnStep]
  | sample p => simp [turnStep]

theorem step_eq_refused_iff {s : State} :
    step s = .refused .illFormedConfiguration ↔ ¬s.params.wellFormed = true := by
  by_cases hw : s.params.wellFormed = true
  · simp [step_of_wellFormed hw, turnStep_ne_refused, hw]
  · simp [step, hw]

/-! ### The threshold at every frequency -/

/-- P1 of 45_control_sequencer.md R194. -/
abbrev ThresholdBounded (p : Params) : Prop :=
  ∀ f, p.tMin.toNat ≤ (threshold p f).toNat ∧ (threshold p f).toNat ≤ p.tMax.toNat

/-- P2 of 45_control_sequencer.md R194. -/
abbrev ThresholdNonIncreasing (p : Params) : Prop :=
  ∀ f g : Freq, f.toNat ≤ g.toNat → (threshold p g).toNat ≤ (threshold p f).toNat

theorem boundedAt_iff {p : Params} {f : Freq} :
    p.boundedAt f = true ↔ p.tMin.toNat ≤ (threshold p f).toNat ∧ (threshold p f).toNat ≤ p.tMax.toNat := by
  simp [Params.boundedAt, BitVec.le_def]

theorem nonIncreasingAt_iff {p : Params} {f g : Freq} :
    p.nonIncreasingAt f g = true ↔ (f.toNat ≤ g.toNat → (threshold p g).toNat ≤ (threshold p f).toNat) := by
  simp [Params.nonIncreasingAt, BitVec.le_def, imp_iff_not_or]

/-- The default form (45_control_sequencer.md R195): the line that falls from `T_MAX`, cut off below at `T_MIN`. -/
theorem linearThreshold_toNat (tMin tMax : Tally) (tDiv f : Freq) :
    (linearThreshold tMin tMax tDiv f).toNat = max tMin.toNat (tMax.toNat - f.toNat / tDiv.toNat) := by
  have hMax := tMax.isLt
  simp only [linearThreshold]
  generalize f.toNat / tDiv.toNat = q
  split
  · omega
  · rw [BitVec.toNat_ofNat, Nat.mod_eq_of_lt (by omega)]
    omega

theorem threshold_linearClamp_toNat {p : Params} (h : p.thresh = .linearClamp) (f : Freq) :
    (threshold p f).toNat = max p.tMin.toNat (p.tMax.toNat - f.toNat / p.tDiv.toNat) := by
  simp only [threshold, h, linearThreshold_toNat]

theorem linearClamp_bounded {p : Params} (h : p.thresh = .linearClamp) (hle : p.tMin.toNat ≤ p.tMax.toNat) :
    ThresholdBounded p := by
  intro f
  rw [threshold_linearClamp_toNat h]
  generalize f.toNat / p.tDiv.toNat = q
  omega

theorem linearClamp_nonIncreasing {p : Params} (h : p.thresh = .linearClamp) : ThresholdNonIncreasing p := by
  intro f g hfg
  rw [threshold_linearClamp_toNat h, threshold_linearClamp_toNat h]
  have hq : f.toNat / p.tDiv.toNat ≤ g.toNat / p.tDiv.toNat := Nat.div_le_div_right hfg
  exact max_le_max_left _ (Nat.sub_le_sub_left hq _)

theorem threshFits_linearClamp_iff {p : Params} (h : p.thresh = .linearClamp) :
    p.threshFits = true ↔
      1 ≤ p.tDiv.toNat ∧ p.tMin.toNat ≤ p.tMax.toNat ∧ p.tMax.toNat ≤ 65534 := by
  simp [Params.threshFits, h, BitVec.le_def, and_assoc]

/-- The frequencies at which a threshold given by its pieces can change its value, and 0. -/
def threshPoints (pieces : List ThreshPiece) : List Freq := 0 :: pieces.map ThreshPiece.start

theorem threshFits_steps_iff {p : Params} {base : Tally} {pieces : List ThreshPiece}
    (h : p.thresh = .steps base pieces) :
    p.threshFits = true ↔
      (∀ f ∈ threshPoints pieces, p.boundedAt f = true)
        ∧ ∀ f ∈ threshPoints pieces, ∀ g ∈ threshPoints pieces, p.nonIncreasingAt f g = true := by
  simp only [Params.threshFits, h, threshPoints, Bool.and_eq_true, List.all_eq_true]

/-- A threshold given by its pieces takes at every frequency its value at the highest point at or below it. -/
theorem threshold_steps_eq_at_point {p : Params} {base : Tally} {pieces : List ThreshPiece}
    (h : p.thresh = .steps base pieces) (f : Freq) :
    ∃ c ∈ threshPoints pieces, c ≤ f ∧ (∀ d ∈ threshPoints pieces, d ≤ f → d ≤ c)
      ∧ threshold p f = threshold p c := by
  simpa only [threshold, h, threshPoints] using steppedThreshold_eq_at_point base pieces f

/-- P1 at the points is P1 everywhere. -/
theorem steps_bounded {p : Params} {base : Tally} {pieces : List ThreshPiece} (h : p.thresh = .steps base pieces)
    (hb : ∀ f ∈ threshPoints pieces, p.boundedAt f = true) : ThresholdBounded p := by
  intro f
  obtain ⟨c, hc, -, -, hval⟩ := threshold_steps_eq_at_point h f
  rw [hval]
  exact boundedAt_iff.mp (hb c hc)

/-- P2 at the points is P2 everywhere: of two frequencies, the higher one's point is not below the lower one's. -/
theorem steps_nonIncreasing {p : Params} {base : Tally} {pieces : List ThreshPiece} (h : p.thresh = .steps base pieces)
    (hn : ∀ f ∈ threshPoints pieces, ∀ g ∈ threshPoints pieces, p.nonIncreasingAt f g = true) :
    ThresholdNonIncreasing p := by
  intro f g hfg
  obtain ⟨c, hc, hcf, -, hvalf⟩ := threshold_steps_eq_at_point h f
  obtain ⟨d, hd, -, hmax, hvalg⟩ := threshold_steps_eq_at_point h g
  have hcd : c ≤ d := hmax c hc (BitVec.le_trans hcf hfg)
  rw [hvalf, hvalg]
  exact nonIncreasingAt_iff.mp (hn c hc d hd) hcd

/-! ### The check of the parameters -/

/-- R10 (c), (d): the check of the threshold says P1 and P2 at every frequency, and of the default form the bounds on
its three constants. -/
theorem threshFits_iff {p : Params} :
    p.threshFits = true ↔
      (p.thresh = .linearClamp → 1 ≤ p.tDiv.toNat ∧ p.tMin.toNat ≤ p.tMax.toNat ∧ p.tMax.toNat ≤ 65534)
        ∧ ThresholdBounded p ∧ ThresholdNonIncreasing p := by
  cases h : p.thresh with
  | linearClamp =>
    rw [threshFits_linearClamp_iff h]
    constructor
    · rintro ⟨hdiv, hle, hmax⟩
      exact ⟨fun _ => ⟨hdiv, hle, hmax⟩, linearClamp_bounded h hle, linearClamp_nonIncreasing h⟩
    · rintro ⟨hc, -, -⟩
      exact hc rfl
  | steps base pieces =>
    rw [threshFits_steps_iff h]
    constructor
    · rintro ⟨hb, hn⟩
      exact ⟨nofun, steps_bounded h hb, steps_nonIncreasing h hn⟩
    · rintro ⟨-, hb, hn⟩
      exact ⟨fun f _ => boundedAt_iff.mpr (hb f), fun f _ g _ => nonIncreasingAt_iff.mpr (hn f g)⟩

/-- R10 (a) to (d). -/
theorem wellFormed_iff {p : Params} :
    p.wellFormed = true ↔
      1 ≤ p.tickRate * p.precision ∧ p.tickRate * p.precision ≤ 2 ^ 32 - 1 ∧ p.cal.length ≤ 16
        ∧ (p.thresh = .linearClamp → 1 ≤ p.tDiv.toNat ∧ p.tMin.toNat ≤ p.tMax.toNat ∧ p.tMax.toNat ≤ 65534)
        ∧ ThresholdBounded p ∧ ThresholdNonIncreasing p := by
  simp only [Params.wellFormed, Params.knumFits, Params.calFits, calMax, Bool.and_eq_true, decide_eq_true_eq,
    threshFits_iff, and_assoc]

/-- Settles O7: a step is refused exactly on parameters that fail the check, and the check is R10 (a) to (d). -/
theorem illFormedConfigurationIsRefused : Obligations.IllFormedConfigurationIsRefused := by
  unfold Obligations.IllFormedConfigurationIsRefused
  intro s
  rw [step_eq_refused_iff, wellFormed_iff]

end Sys2Proof.Machine

/-! The registers of CORE (10_state.md): the state after reset, the status port, what an event can change, and what a
raised `SEQ_FAULT` holds until RESET. -/

namespace Sys2Proof.Machine

/-! ### What an event changes -/

/-- `t` is `s` but for the shared registers of 10_state.md R41: `MT_CNT`, `MT_OVF`, `MT_RUN`, `CT_CNT`, `CT_OVF`,
`PULSE_COUNT` and the snapshot. -/
def State.ChangesOnlyShared (s t : State) : Prop :=
  t = { s with
    mt := t.mt
    ct := { t.ct with run := s.ct.run }
    pulseCount := t.pulseCount
    snapOvf := t.snapOvf
    snapTicks := t.snapTicks }

/-- A captured edge writes the snapshot, the count and the Measurement Timer; an inhibited one writes nothing. -/
theorem State.edge_changesOnlyShared (s : State) : s.ChangesOnlyShared s.edge := by
  unfold State.edge
  split
  · rfl
  · rfl

theorem State.tickM_changesOnlyShared (s : State) : s.ChangesOnlyShared s.tickM := rfl

/-- A tick of the Cadence Timer keeps its run flag. -/
theorem State.tickC_changesOnlyShared (s : State) : s.ChangesOnlyShared s.tickC := by
  rw [State.ChangesOnlyShared, State.tickC_ct, ← Timer.tick_run s.ct]
  rfl

/-- A step that answers a next state is the step of the agent whose turn it is. -/
theorem turnStep_of_step {s t : State} (h : step s = .next t) : turnStep s.nextTurn s.takeTurn = .next t := by
  obtain ⟨hw, -⟩ := step_next_cases h
  rwa [step_of_wellFormed hw] at h

/-- The three events of 60_exceptions.md R222 change only shared registers, once the turn is taken. -/
theorem event_step_changesOnlyShared {s t : State} (h : step s = .next t)
    (hturn : s.nextTurn = .edge ∨ s.nextTurn = .tickM ∨ s.nextTurn = .tickC) : s.takeTurn.ChangesOnlyShared t := by
  have ht := turnStep_of_step h
  rcases hturn with hturn | hturn | hturn <;> rw [hturn] at ht <;> cases ht
  · exact s.takeTurn.edge_changesOnlyShared
  · exact s.takeTurn.tickM_changesOnlyShared
  · exact s.takeTurn.tickC_changesOnlyShared

/-- Settles O59: taking the turn is dropping it from the schedule, and the event then changes only shared registers. -/
theorem eventsChangeOnlySharedRegisters : Obligations.EventsChangeOnlySharedRegisters := by
  unfold Obligations.EventsChangeOnlySharedRegisters
  intro s t h hturn
  exact event_step_changesOnlyShared h hturn

/-! ### What a raised `SEQ_FAULT` holds -/

/-- The registers that 60_exceptions.md R235 says keep their values while the sequencer is faulted, and `SEQ_FAULT`
itself. -/
def State.SameSequencer (s t : State) : Prop :=
  t.seqFault = s.seqFault ∧ t.upc = s.upc ∧ t.inh = s.inh ∧ t.freq = s.freq ∧ t.din = s.din ∧ t.dacOut = s.dacOut
    ∧ t.lines = s.lines ∧ t.trace = s.trace

/-- None of the shared registers is a register of the sequencer. -/
theorem State.ChangesOnlyShared.sameSequencer {s t : State} (h : s.ChangesOnlyShared t) : s.SameSequencer t := by
  rw [State.ChangesOnlyShared] at h
  rw [h]
  exact ⟨rfl, rfl, rfl, rfl, rfl, rfl, rfl, rfl⟩

/-- A sample outside reset writes `PIN_PREV` and the schedule only. -/
theorem State.samplePorts_sameSequencer {s : State} {p : PortSample} (h : p.rstN = true) :
    s.SameSequencer (s.samplePorts p) := by
  rw [State.samplePorts, if_pos h]
  exact ⟨rfl, rfl, rfl, rfl, rfl, rfl, rfl, rfl⟩

theorem State.resetsNext_of_reset {s : State} {pulseIn : Level} (h : s.nextTurn = .reset pulseIn) :
    s.resetsNext = true := by
  simp [State.resetsNext, h]

theorem State.resetsNext_of_sample {s : State} {p : PortSample} (h : s.nextTurn = .sample p) :
    s.resetsNext = !p.rstN := by
  simp [State.resetsNext, h]

/-- A faulted sequencer has no step, so a step that is not RESET is an event or a sample with `rst_n` = 1, and neither
writes the sequencer's registers. -/
theorem faulted_step_sameSequencer {s t : State} (hfault : s.seqFault = true) (hreset : s.resetsNext = false)
    (h : step s = .next t) : s.takeTurn.SameSequencer t := by
  obtain ⟨-, ⟨-, hclear, -⟩ | ⟨-, hclear, -⟩ | ⟨hturn, -⟩ | ⟨hturn, -⟩ | ⟨hturn, -⟩ | ⟨l, hturn, -⟩ | ⟨p, hturn, rfl⟩⟩ :=
    step_next_cases h
  · simp [hfault] at hclear
  · simp [hfault] at hclear
  · exact (event_step_changesOnlyShared h (.inl hturn)).sameSequencer
  · exact (event_step_changesOnlyShared h (.inr (.inl hturn))).sameSequencer
  · exact (event_step_changesOnlyShared h (.inr (.inr hturn))).sameSequencer
  · simp [State.resetsNext_of_reset hturn] at hreset
  · have hrst : p.rstN = true := by simpa [State.resetsNext_of_sample hturn] using hreset
    exact State.samplePorts_sameSequencer hrst

/-- Settles O58: a step of a faulted machine that is not RESET leaves the sequencer's registers, `SEQ_FAULT` among
them. -/
theorem seqFaultHoldsUntilReset : Obligations.SeqFaultHoldsUntilReset := by
  unfold Obligations.SeqFaultHoldsUntilReset
  intro s t hfault hreset h
  obtain ⟨hflag, hrest⟩ := faulted_step_sameSequencer hfault hreset h
  exact ⟨hflag.trans hfault, hrest⟩

/-! ### The status port -/

/-- 10_state.md R36 with the codes of 30_encoding.md R91: faulted before inhibited before counting. -/
theorem State.cstate_code_eq (s : State) :
    s.cstate.code =
      if s.seqFault = true then 3 else if s.inh = true then 2 else if s.pulseCount ≠ 0 then 1 else 0 := by
  have hcount : s.pulseCount ≠ 0 ↔ 1 ≤ s.pulseCount.toNat := by
    rw [ne_eq, ← BitVec.toNat_inj]
    exact Nat.one_le_iff_ne_zero.symm
  simp only [hcount, State.cstate, apply_ite CState.code]
  rfl

/-- Settles O53: the port carries the code of `CSTATE`, and each other port its register. -/
theorem statusPortFollowsItsPrecedence : Obligations.StatusPortFollowsItsPrecedence := by
  unfold Obligations.StatusPortFollowsItsPrecedence
  intro s
  exact ⟨s.cstate_code_eq, rfl, rfl, rfl, rfl⟩

/-! ### The state after reset -/

/-- Settles O55: the registers are those of the definition; `INH` = 1 without a fault shows on the status port. -/
theorem stateAfterReset : Obligations.StateAfterReset := by
  unfold Obligations.StateAfterReset
  have hport : State.reset.outputs.cstate = 2 := State.reset.cstate_code_eq
  exact ⟨rfl, rfl, rfl, rfl, rfl, rfl, rfl, rfl, rfl, rfl, rfl, rfl, rfl, rfl, rfl, hport⟩

theorem reset_dacAtRest : State.reset.DacAtRest := ⟨rfl, rfl, rfl, rfl⟩

/-- The empty trace has shifted nothing into the receiver. -/
theorem reset_receiverAgrees : State.reset.ReceiverAgrees := .inl ⟨rfl, rfl⟩

/-- The example parameters (assumption log 2) are a configuration with a meaning. -/
theorem exampleParams_wellFormed : exampleParams.wellFormed = true := by decide

/-- The micro-program the model puts into the state after reset (assumption log 1) holds legal words only. -/
theorem canonicalProgram_legal : uprogLegal canonicalProgram = true := by decide

/-- Settles O44: the DAC driver rests at its idle levels with an empty trace; safety and the legal micro-program rest on
the model's configuration. -/
theorem resetMeetsTheInvariants : Obligations.ResetMeetsTheInvariants := by
  unfold Obligations.ResetMeetsTheInvariants
  exact ⟨reset_dacAtRest, rfl, reset_receiverAgrees, ⟨exampleParams_wellFormed, rfl, reset_dacAtRest⟩,
    canonicalProgram_legal⟩

end Sys2Proof.Machine

/-! The ROMs and the ordering instruments of CORE (20_memory.md): what no micro-op writes, what no step of any agent
writes, and what the inhibit keeps from the event EDGE. -/

namespace Sys2Proof.Machine

/-! ### What a micro-op leaves unchanged -/

/-- `t` is `s` but for the registers of the DAC driver and `UPC` (20_memory.md R68). -/
def State.ChangesOnlyDriver (s t : State) : Prop :=
  t = { s with
    lines := t.lines
    dacOut := t.dacOut
    sr := t.sr
    bitCnt := t.bitCnt
    trace := t.trace
    upc := t.upc }

theorem State.ChangesOnlyDriver.trans {s u t : State} (hsu : s.ChangesOnlyDriver u) (hut : u.ChangesOnlyDriver t) :
    s.ChangesOnlyDriver t := by
  rw [State.ChangesOnlyDriver] at *
  rw [hut, hsu]

theorem State.loadShifter_changesOnlyDriver (s : State) : s.ChangesOnlyDriver s.loadShifter := rfl

theorem State.shiftOut_changesOnlyDriver (s : State) : s.ChangesOnlyDriver s.shiftOut := by
  unfold State.shiftOut
  cases s.bitCnt.toNat with
  | zero => rfl
  | succ k =>
    rw [State.shiftBits_succ_eq]
    rfl

theorem State.loadPulse_changesOnlyDriver (s : State) : s.ChangesOnlyDriver s.loadPulse := rfl

/-- The shifter is loaded and shifted out, the load line pulsed: all of it writes the driver's registers only. -/
theorem execDwr_changesOnlyDriver {s t : State} (h : execDwr s = .next t) : s.ChangesOnlyDriver t := by
  have hframe : s.ChangesOnlyDriver s.loadShifter.shiftOut.loadPulse :=
    (s.loadShifter_changesOnlyDriver.trans (State.shiftOut_changesOnlyDriver _)).trans
      (State.loadPulse_changesOnlyDriver _)
  unfold execDwr at h
  generalize s.loadShifter.shiftOut.loadPulse = u at h hframe
  cases h
  exact hframe.trans rfl

/-- `WAITC` advances or stays. -/
theorem execWaitc_cases {s t : State} (h : execWaitc s = .next t) : t = s.advance ∨ t = s := by
  cases h
  split
  · exact .inl rfl
  · exact .inr rfl

/-- The fields no micro-op writes: the ROM (20_memory.md R73), the parameters (10_state.md R38), `SEQ_FAULT` (R30),
`PIN_PREV` (R35), and the model's own schedule (assumption log 3). -/
structure State.SameOutsideMicroOps (s t : State) : Prop where
  uprog : t.uprog = s.uprog
  params : t.params = s.params
  seqFault : t.seqFault = s.seqFault
  pinPrev : t.pinPrev = s.pinPrev
  schedule : t.schedule = s.schedule

theorem State.ChangesOnlyDriver.sameOutsideMicroOps {s t : State} (h : s.ChangesOnlyDriver t) :
    s.SameOutsideMicroOps t := by
  rw [State.ChangesOnlyDriver] at h
  rw [h]
  exact ⟨rfl, rfl, rfl, rfl, rfl⟩

theorem exec_sameOutsideMicroOps {i : Instr} {s t : State} (h : exec i s = .next t) : s.SameOutsideMicroOps t := by
  cases i with
  | dwr => exact (execDwr_changesOnlyDriver h).sameOutsideMicroOps
  | waitc => obtain rfl | rfl := execWaitc_cases h <;> exact ⟨rfl, rfl, rfl, rfl, rfl⟩
  | _ => cases h; exact ⟨rfl, rfl, rfl, rfl, rfl⟩

/-! ### What no step changes -/

theorem State.samplePorts_of_rstN {s : State} {p : PortSample} (h : p.rstN = true) :
    s.samplePorts p = { s with pinPrev := p.pulseIn, schedule := s.cycleTurns p ++ s.schedule } :=
  if_pos h

theorem State.samplePorts_of_not_rstN {s : State} {p : PortSample} (h : ¬p.rstN = true) :
    s.samplePorts p = s.applyReset p.pulseIn :=
  if_neg h

/-- `UPROG` and the other parameters are those of the build (20_memory.md R73; 10_state.md R38). -/
def State.SameBuild (s t : State) : Prop := t.uprog = s.uprog ∧ t.params = s.params

theorem State.ChangesOnlyShared.sameBuild {s t : State} (h : s.ChangesOnlyShared t) : s.SameBuild t := by
  rw [State.ChangesOnlyShared] at h
  rw [h]
  exact ⟨rfl, rfl⟩

theorem State.samplePorts_sameBuild (s : State) (p : PortSample) : s.SameBuild (s.samplePorts p) := by
  by_cases h : p.rstN = true
  · rw [State.samplePorts_of_rstN h]
    exact ⟨rfl, rfl⟩
  · rw [State.samplePorts_of_not_rstN h]
    exact ⟨rfl, rfl⟩

/-- Agent by agent: RESET, too, keeps what is no register. -/
theorem step_sameBuild {s t : State} (h : step s = .next t) : s.takeTurn.SameBuild t := by
  obtain ⟨-, ⟨-, -, i, -, hexec⟩ | ⟨-, -, -, rfl⟩ | ⟨hturn, -⟩ | ⟨hturn, -⟩ | ⟨hturn, -⟩ | ⟨l, -, rfl⟩ | ⟨p, -, rfl⟩⟩ :=
    step_next_cases h
  · have hframe := exec_sameOutsideMicroOps hexec
    exact ⟨hframe.uprog, hframe.params⟩
  · exact ⟨rfl, rfl⟩
  · exact (event_step_changesOnlyShared h (.inl hturn)).sameBuild
  · exact (event_step_changesOnlyShared h (.inr (.inl hturn))).sameBuild
  · exact (event_step_changesOnlyShared h (.inr (.inr hturn))).sameBuild
  · exact ⟨rfl, rfl⟩
  · exact s.takeTurn.samplePorts_sameBuild p

/-- Settles O56: taking the turn, too, writes the schedule alone. -/
theorem stepKeepsRomsAndParameters : Obligations.StepKeepsRomsAndParameters := by
  unfold Obligations.StepKeepsRomsAndParameters
  intro s t h
  exact step_sameBuild h

/-! ### What the inhibit keeps -/

/-- `INH` and what it protects, the pulse count and the snapshot, keep their values (20_memory.md R71). -/
structure State.SameCapture (s t : State) : Prop where
  inh : t.inh = s.inh
  pulseCount : t.pulseCount = s.pulseCount
  snapOvf : t.snapOvf = s.snapOvf
  snapTicks : t.snapTicks = s.snapTicks

theorem State.SameCapture.refl (s : State) : s.SameCapture s := ⟨rfl, rfl, rfl, rfl⟩

theorem State.SameCapture.trans {s u t : State} (hsu : s.SameCapture u) (hut : u.SameCapture t) : s.SameCapture t where
  inh := hut.inh.trans hsu.inh
  pulseCount := hut.pulseCount.trans hsu.pulseCount
  snapOvf := hut.snapOvf.trans hsu.snapOvf
  snapTicks := hut.snapTicks.trans hsu.snapTicks

theorem State.ChangesOnlyDriver.sameCapture {s t : State} (h : s.ChangesOnlyDriver t) : s.SameCapture t := by
  rw [State.ChangesOnlyDriver] at h
  rw [h]
  exact ⟨rfl, rfl, rfl, rfl⟩

/-- `ENA` and `PCCLR` are the only micro-ops that write the capture once it is inhibited; `INH` then writes the value
that stands there (41_pulse_capture.md R125). -/
theorem exec_sameCapture {i : Instr} {s t : State} (h : exec i s = .next t) (hinh : s.inh = true)
    (hena : i ≠ .ena) (hpcclr : i ≠ .pcclr) : s.SameCapture t := by
  cases i with
  | ena => exact absurd rfl hena
  | pcclr => exact absurd rfl hpcclr
  | inh => cases h; exact ⟨hinh.symm, rfl, rfl, rfl⟩
  | dwr => exact (execDwr_changesOnlyDriver h).sameCapture
  | waitc => obtain rfl | rfl := execWaitc_cases h <;> exact ⟨rfl, rfl, rfl, rfl⟩
  | _ => cases h; exact ⟨rfl, rfl, rfl, rfl⟩

/-- 41_pulse_capture.md R123. -/
theorem State.edge_of_inh {s : State} (h : s.inh = true) : s.edge = s := if_pos h

theorem State.endsInhibitNext_eq_false_iff {s : State} :
    s.endsInhibitNext = false ↔ s.resetsNext = false ∧ s.nextOp ≠ some .ena ∧ s.nextOp ≠ some .pcclr := by
  simp only [State.endsInhibitNext, Bool.or_eq_false_iff, decide_eq_false_iff_not, and_assoc, ne_eq]

/-- Agent by agent: an inhibited edge does nothing, a tick moves its timer, a sample outside reset writes no register
of the capture, and the sequencer's micro-op is neither `ENA` nor `PCCLR`. -/
theorem inhibited_step_sameCapture {s t : State} (h : step s = .next t) (hinh : s.inh = true)
    (hstays : s.endsInhibitNext = false) : s.SameCapture t := by
  obtain ⟨hreset, hena, hpcclr⟩ := State.endsInhibitNext_eq_false_iff.mp hstays
  have htake : s.SameCapture s.takeTurn := ⟨rfl, rfl, rfl, rfl⟩
  refine htake.trans ?_
  obtain ⟨-, ⟨hturn, hclear, i, hdec, hexec⟩ | ⟨-, -, -, rfl⟩ | ⟨-, rfl⟩ | ⟨-, rfl⟩ | ⟨-, rfl⟩ | ⟨l, hturn, -⟩
    | ⟨p, hturn, rfl⟩⟩ := step_next_cases h
  · have hop : s.nextOp = some i := State.nextOp_eq_some.mpr ⟨hturn, hclear, hdec⟩
    rw [hop, ne_eq, Option.some_inj] at hena hpcclr
    exact exec_sameCapture hexec hinh hena hpcclr
  · exact ⟨rfl, rfl, rfl, rfl⟩
  · rw [State.edge_of_inh (s := s.takeTurn) hinh]
    exact .refl _
  · exact ⟨rfl, rfl, rfl, rfl⟩
  · exact ⟨rfl, rfl, rfl, rfl⟩
  · simp [State.resetsNext_of_reset hturn] at hreset
  · have hrst : p.rstN = true := by simpa [State.resetsNext_of_sample hturn] using hreset
    rw [State.samplePorts_of_rstN hrst]
    exact ⟨rfl, rfl, rfl, rfl⟩

/-- `INH` = 1 is kept by every step of the run, so each step finds the capture inhibited. -/
theorem inhibited_run_sameCapture {k : Nat} {s t : State} (h : Run k s t) :
    s.inh = true → neverSteps State.endsInhibitNext k s = true → s.SameCapture t := by
  refine run_induction
    (P := fun k s t => s.inh = true → neverSteps State.endsInhibitNext k s = true → s.SameCapture t) ?zero ?succ h
  case zero => exact fun s _ _ => .refl s
  case succ =>
    intro k s u t hstep _ ih hinh hnever
    simp only [neverSteps_succ hstep, Bool.and_eq_true, Bool.not_eq_true'] at hnever
    obtain ⟨hstays, hrest⟩ := hnever
    have hsu := inhibited_step_sameCapture hstep hinh hstays
    exact hsu.trans (ih (hsu.inh.trans hinh) hrest)

/-- Settles O25, by induction over the run. -/
theorem inhibitFreezesTheCapture : Obligations.InhibitFreezesTheCapture := by
  unfold Obligations.InhibitFreezesTheCapture
  intro k s t h hinh hnever
  obtain ⟨hsame, hcount, hovf, hticks⟩ := inhibited_run_sameCapture h hinh hnever
  exact ⟨hsame.trans hinh, hcount, hovf, hticks⟩

end Sys2Proof.Machine

/-! The encoding (30_encoding.md): words and micro-ops, the illegal words, the calibration word, and what the wide loads
leave in their register. -/

namespace Sys2Proof

/-! ### The fields of a word -/

/-- `op = w[7:4]` (R81) as a quotient. -/
theorem opField_toNat (w : UopWord) : (opField w).toNat = w.toNat / 16 := by
  have hw := w.isLt
  rw [opField, BitVec.extractLsb'_toNat, Nat.shiftRight_eq_div_pow]
  omega

/-- `arg = w[3:0]` (R81) as a remainder. -/
theorem argField_toNat (w : UopWord) : (argField w).toNat = w.toNat % 16 := by
  rw [argField, BitVec.extractLsb'_toNat, Nat.shiftRight_zero]

theorem mkWord_toNat (op arg : BitVec 4) : (mkWord op arg).toNat = op.toNat * 16 + arg.toNat := by
  rw [mkWord, BitVec.toNat_append, ← Nat.shiftLeft_add_eq_or_of_lt arg.isLt, Nat.shiftLeft_eq]

@[simp] theorem opField_mkWord (op arg : BitVec 4) : opField (mkWord op arg) = op := by
  apply BitVec.eq_of_toNat_eq
  rw [opField_toNat, mkWord_toNat]
  omega

@[simp] theorem argField_mkWord (op arg : BitVec 4) : argField (mkWord op arg) = arg := by
  apply BitVec.eq_of_toNat_eq
  rw [argField_toNat, mkWord_toNat]
  omega

/-- A word is its two fields (R80). -/
theorem mkWord_opField_argField (w : UopWord) : mkWord (opField w) (argField w) = w := by
  apply BitVec.eq_of_toNat_eq
  rw [mkWord_toNat, opField_toNat, argField_toNat]
  omega

/-! ### The operand of a word -/

theorem decodeNone_eq_instr_iff {i j : Instr} {arg : BitVec 4} :
    decodeNone j arg = .instr i ↔ j = i ∧ arg = 0#4 := by
  by_cases harg : arg = 0#4 <;> simp [decodeNone, harg]

theorem decodeNone_illegal_iff {j : Instr} {arg : BitVec 4} :
    (∃ why, decodeNone j arg = .illegal why) ↔ arg ≠ 0#4 := by
  by_cases harg : arg = 0#4 <;> simp [decodeNone, harg]

/-- The argument of a timer micro-op is a mask below two zero bits (R82 (b)). -/
theorem decodeMask_eq_instr_iff {i : Instr} {f : TimerMask → Instr} {arg : BitVec 4} :
    decodeMask f arg = .instr i ↔ ∃ m, f m = i ∧ arg = 0#2 ++ m := by
  have hsplit : ∀ m : TimerMask, arg = 0#2 ++ m ↔ arg.extractLsb' 2 2 = 0#2 ∧ m = arg.extractLsb' 0 2 := by
    revert arg
    decide
  by_cases hhigh : arg.extractLsb' 2 2 = 0#2 <;> simp [decodeMask, hsplit, hhigh]

theorem decodeMask_illegal_iff {f : TimerMask → Instr} {arg : BitVec 4} :
    (∃ why, decodeMask f arg = .illegal why) ↔ arg.extractLsb' 2 2 ≠ 0#2 := by
  by_cases hhigh : arg.extractLsb' 2 2 = 0#2 <;> simp [decodeMask, hhigh]

/-! ### The rows of the opcode table -/

/-- The four ways the table uses `arg` (R82): not at all, as a timer mask, whole, and the reserved opcode's. -/
inductive OpFormat where
  | plain
  | mask
  | whole
  | reserved
deriving DecidableEq

/-- The format of an opcode (R83). -/
def opFormat (op : BitVec 4) : OpFormat :=
  if op = 0xB then .reserved
  else if op.toNat ∈ [0x3, 0x4, 0x5] then .mask
  else if 0xD ≤ op.toNat then .whole
  else .plain

/-- What decoding can answer for a word with the fields `op` and `arg`, format by format, with the words of the row's
micro-ops. -/
inductive DecodesInRow (op arg : BitVec 4) : Decoded → Prop where
  | plain (i : Instr) (hformat : opFormat op = .plain) (hword : encode i = mkWord op 0#4) :
    DecodesInRow op arg (decodeNone i arg)
  | mask (f : TimerMask → Instr) (hformat : opFormat op = .mask) (hword : ∀ m, encode (f m) = mkWord op (0#2 ++ m)) :
    DecodesInRow op arg (decodeMask f arg)
  | whole (f : BitVec 4 → Instr) (hformat : opFormat op = .whole) (hword : ∀ n, encode (f n) = mkWord op n) :
    DecodesInRow op arg (.instr (f arg))
  | reserved (hformat : opFormat op = .reserved) : DecodesInRow op arg (.illegal .reservedOpcode)

/-- The decoder, row by row (R83). -/
theorem decode_inRow (w : UopWord) : DecodesInRow (opField w) (argField w) (decode w) := by
  unfold decode
  generalize opField w = op, argField w = arg
  dsimp only
  split
  · exact .plain .nop rfl rfl
  · exact .plain .inh rfl rfl
  · exact .plain .ena rfl rfl
  · exact .mask .tstop rfl fun _ => rfl
  · exact .mask .trst rfl fun _ => rfl
  · exact .mask .tstart rfl fun _ => rfl
  · exact .plain .pcclr rfl rfl
  · exact .plain .est rfl rfl
  · exact .plain .itp rfl rfl
  · exact .plain .dinit rfl rfl
  · exact .plain .dwr rfl rfl
  · exact .plain .waitc rfl rfl
  · exact .whole .jmp rfl fun _ => rfl
  · exact .whole .ldf rfl fun _ => rfl
  · exact .whole .ldd rfl fun _ => rfl
  · have hop : op = 0xB := by
      revert op
      decide
    exact .reserved (by rw [hop]; rfl)

/-! ### Decoding and encoding -/

/-- Format by format, the argument of a legal word is the one its micro-op is encoded with. -/
theorem encode_of_decode {i : Instr} {w : UopWord} (h : decode w = .instr i) : encode i = w := by
  rw [← mkWord_opField_argField w]
  have hrow := decode_inRow w
  generalize decode w = d at h hrow
  cases hrow with
  | plain j _ hword =>
    obtain ⟨rfl, harg⟩ := decodeNone_eq_instr_iff.mp h
    rw [hword, harg]
  | mask f _ hword =>
    obtain ⟨m, rfl, harg⟩ := decodeMask_eq_instr_iff.mp h
    rw [hword, harg]
  | whole f _ hword =>
    cases h
    exact hword _
  | reserved => cases h

theorem decode_encode (i : Instr) : decode (encode i) = .instr i := by
  cases i with
  | tstop m | trst m | tstart m =>
    simp only [encode, decode, opField_mkWord, argField_mkWord, BitVec.ofNat_eq_ofNat]
    exact decodeMask_eq_instr_iff.mpr ⟨m, rfl, rfl⟩
  | jmp n | ldf n | ldd n => simp only [encode, decode, opField_mkWord, argField_mkWord, BitVec.ofNat_eq_ofNat]
  | _ => rfl

/-- A word decodes to a micro-op exactly if it is the micro-op's word (R81, R83). -/
theorem decode_eq_instr_iff {i : Instr} {w : UopWord} : decode w = .instr i ↔ encode i = w := by
  constructor
  · exact encode_of_decode
  · rintro rfl
    exact decode_encode i

/-- Settles O1. -/
theorem decodeAndEncodeAgree : Obligations.DecodeAndEncodeAgree := by
  unfold Obligations.DecodeAndEncodeAgree
  exact fun i w => decode_eq_instr_iff

/-- Settles O3: each word has only to be the word of its micro-op. -/
theorem tableWordsDecode : Obligations.TableWordsDecode := by
  unfold Obligations.TableWordsDecode
  simp only [decode_eq_instr_iff]
  decide

/-! ### The illegal words -/

/-- R84 in terms of the fields and the formats. -/
theorem decode_illegal_iff {w : UopWord} :
    (∃ why, decode w = .illegal why) ↔
      opFormat (opField w) = .reserved
        ∨ (opFormat (opField w) = .plain ∧ argField w ≠ 0#4)
        ∨ (opFormat (opField w) = .mask ∧ (argField w).extractLsb' 2 2 ≠ 0#2) := by
  have hrow := decode_inRow w
  generalize decode w = d at hrow
  cases hrow with
  | plain i hformat => simp [decodeNone_illegal_iff, hformat]
  | mask f hformat => simp [decodeMask_illegal_iff, hformat]
  | whole f hformat => simp [hformat]
  | reserved hformat => simp [hformat]

theorem opFormat_eq_reserved_iff : ∀ {op : BitVec 4}, opFormat op = .reserved ↔ op.toNat = 0xB := by decide

theorem opFormat_eq_mask_iff : ∀ {op : BitVec 4}, opFormat op = .mask ↔ op.toNat ∈ [0x3, 0x4, 0x5] := by decide

theorem opFormat_eq_plain_iff :
    ∀ {op : BitVec 4}, opFormat op = .plain ↔ op.toNat ∈ [0x0, 0x1, 0x2, 0x6, 0x7, 0x8, 0x9, 0xA, 0xC] := by decide

/-- `arg[3:2]` as a quotient. -/
theorem extractLsb'_two_ne_zero_iff : ∀ {arg : BitVec 4}, arg.extractLsb' 2 2 ≠ 0#2 ↔ arg.toNat / 4 ≠ 0 := by decide

/-- Settles O2: the three formats with illegal words, with the fields as the quotient and the remainder by 16. -/
theorem illegalWordsAreTheThreeCases : Obligations.IllegalWordsAreTheThreeCases := by
  unfold Obligations.IllegalWordsAreTheThreeCases
  intro w
  rw [decode_illegal_iff, opFormat_eq_reserved_iff, opFormat_eq_plain_iff, opFormat_eq_mask_iff,
    extractLsb'_two_ne_zero_iff, BitVec.toNat_ne, BitVec.toNat_zero, opField_toNat, argField_toNat]

end Sys2Proof

namespace Sys2Proof.Machine

/-! ### The calibration word -/

theorem calEntryOfWord_freq_toNat (w : CalWord) : (calEntryOfWord w).freq.toNat = w.toNat / 2 ^ 16 := by
  have hw := w.isLt
  rw [calEntryOfWord, BitVec.extractLsb'_toNat, Nat.shiftRight_eq_div_pow]
  omega

theorem calEntryOfWord_code_toNat (w : CalWord) : (calEntryOfWord w).code.toNat = w.toNat % 2 ^ 12 := by
  rw [calEntryOfWord, BitVec.extractLsb'_toNat, Nat.shiftRight_zero]

theorem calWordOfEntry_toNat (e : CalEntry) : (calWordOfEntry e).toNat = e.freq.toNat * 2 ^ 16 + e.code.toNat := by
  rw [calWordOfEntry, BitVec.toNat_append, BitVec.toNat_append, BitVec.toNat_ofNat,
    ← Nat.shiftLeft_add_eq_or_of_lt e.code.isLt, Nat.zero_mod, Nat.or_zero, Nat.shiftLeft_eq, Nat.shiftLeft_eq]
  omega

theorem calEntryOfWord_calWordOfEntry (e : CalEntry) : calEntryOfWord (calWordOfEntry e) = e := by
  have hlt := e.code.isLt
  have hfreq : (calEntryOfWord (calWordOfEntry e)).freq = e.freq := by
    apply BitVec.eq_of_toNat_eq
    rw [calEntryOfWord_freq_toNat, calWordOfEntry_toNat]
    omega
  have hcode : (calEntryOfWord (calWordOfEntry e)).code = e.code := by
    apply BitVec.eq_of_toNat_eq
    rw [calEntryOfWord_code_toNat, calWordOfEntry_toNat]
    omega
  exact congrArg₂ CalEntry.mk hfreq hcode

/-- Settles O31: the fields as quotient and remainder; an entry's word has a code below 2^12 under its frequency. -/
theorem calibrationWordLayout : Obligations.CalibrationWordLayout := by
  unfold Obligations.CalibrationWordLayout
  refine ⟨fun w => ⟨calEntryOfWord_freq_toNat w, calEntryOfWord_code_toNat w⟩,
    fun e => ⟨calEntryOfWord_calWordOfEntry e, ?_⟩⟩
  have hcode := e.code.isLt
  rw [calWordOfEntry_toNat]
  omega

/-! ### The wide loads -/

/-- The low `k` nibbles of a constant, most significant first (R87). -/
def nibblesOf {w : Nat} (v : BitVec w) : Nat → List Nibble
  | 0 => []
  | k + 1 => v.extractLsb' (4 * k) 4 :: nibblesOf v k

@[simp] theorem nibblesOf_length {w : Nat} (v : BitVec w) (k : Nat) : (nibblesOf v k).length = k := by
  induction k with
  | zero => rfl
  | succ k ih => rw [nibblesOf, List.length_cons, ih]

theorem ldf32Expansion_eq (v : Freq) : ldf32Expansion v = (nibblesOf v 8).map .ldf := rfl

theorem ldd16Expansion_eq (v : DinWord) : ldd16Expansion v = (nibblesOf v 4).map .ldd := rfl

theorem shiftInNibble_toNat {w : Nat} (r : BitVec w) (n : Nibble) :
    (shiftInNibble r n).toNat = (r.toNat * 16 + n.toNat) % 2 ^ w :=
  BitVec.toNat_ofNat ..

/-- `k` nibbles shifted in are the low `k` nibbles of the constant, below what the register held. -/
theorem foldl_shiftInNibble_toNat {w : Nat} (v : BitVec w) (k : Nat) : ∀ r : BitVec w,
    ((nibblesOf v k).foldl shiftInNibble r).toNat = (r.toNat * 16 ^ k + v.toNat % 16 ^ k) % 2 ^ w := by
  induction k with
  | zero => intro r; simp [nibblesOf, Nat.mod_one, Nat.mod_eq_of_lt r.isLt]
  | succ k ih =>
    intro r
    have hnibble : (v.extractLsb' (4 * k) 4).toNat = v.toNat / 16 ^ k % 16 := by
      rw [BitVec.extractLsb'_toNat, Nat.shiftRight_eq_div_pow, Nat.pow_mul]
    rw [nibblesOf, List.foldl_cons, ih, shiftInNibble_toNat, hnibble]
    calc ((r.toNat * 16 + v.toNat / 16 ^ k % 16) % 2 ^ w * 16 ^ k + v.toNat % 16 ^ k) % 2 ^ w
        = ((r.toNat * 16 + v.toNat / 16 ^ k % 16) * 16 ^ k + v.toNat % 16 ^ k) % 2 ^ w := by
          rw [Nat.add_mod, Nat.mod_mul_mod, ← Nat.add_mod]
      _ = (r.toNat * 16 ^ (k + 1) + v.toNat % 16 ^ (k + 1)) % 2 ^ w := by
          rw [Nat.pow_succ, Nat.mod_mul]
          ring_nf

/-- As many nibbles as the register holds leave nothing of what it held. -/
theorem foldl_shiftInNibble_nibblesOf {w k : Nat} (hw : w = 4 * k) (v r : BitVec w) :
    (nibblesOf v k).foldl shiftInNibble r = v := by
  apply BitVec.eq_of_toNat_eq
  have hpow : 16 ^ k = 2 ^ w := by rw [hw, Nat.pow_mul]
  rw [foldl_shiftInNibble_toNat, hpow, Nat.mul_add_mod_self_right, Nat.mod_mod, Nat.mod_eq_of_lt v.isLt]

/-- Loads of nibbles in sequence; `state r u` has the register at `r` and `UPC` at `u`. The nibbles are
shifted in one after another and `UPC` counts them (R268). -/
theorem execAll_loads {w : Nat} {load : Nibble → Instr} {state : BitVec w → UAddr → State}
    (hload : ∀ n r u, exec (load n) (state r u) = .next (state (shiftInNibble r n) (u + 1))) (ns : List Nibble) :
    ∀ r u, execAll (ns.map load) (state r u)
      = .next (state (ns.foldl shiftInNibble r) (u + BitVec.ofNat 4 ns.length)) := by
  induction ns with
  | nil => intro r u; simp [execAll]
  | cons n ns ih =>
    intro r u
    have hupc : u + 1 + BitVec.ofNat 4 ns.length = u + BitVec.ofNat 4 (ns.length + 1) := by
      rw [BitVec.ofNat_add]
      ac_rfl
    simp only [List.map_cons, execAll, hload, ih, List.foldl_cons, List.length_cons, hupc]

/-- As many loads as the register holds nibbles leave the constant, whatever it held (R87). -/
theorem execAll_wideLoad {w k : Nat} {load : Nibble → Instr} {state : BitVec w → UAddr → State}
    (hload : ∀ n r u, exec (load n) (state r u) = .next (state (shiftInNibble r n) (u + 1))) (hw : w = 4 * k)
    (v r : BitVec w) (u : UAddr) :
    execAll ((nibblesOf v k).map load) (state r u) = .next (state v (u + BitVec.ofNat 4 k)) := by
  rw [execAll_loads hload, foldl_shiftInNibble_nibblesOf hw, nibblesOf_length]

/-- R196. -/
theorem exec_ldf_eq (n : Nibble) (s : State) :
    exec (.ldf n) s = .next { s with freq := shiftInNibble s.freq n, upc := s.upc + 1 } := by
  rw [exec, execLdf, State.advance_eq]

/-- R197. -/
theorem exec_ldd_eq (n : Nibble) (s : State) :
    exec (.ldd n) s = .next { s with din := shiftInNibble s.din n, upc := s.upc + 1 } := by
  rw [exec, execLdd, State.advance_eq]

/-- Settles O51: `LDF32` is a wide load of `FREQ`, `LDD16` one of `DIN`. -/
theorem wideLoadsLeaveTheConstant : Obligations.WideLoadsLeaveTheConstant := by
  unfold Obligations.WideLoadsLeaveTheConstant
  constructor
  · intro v s
    rw [ldf32Expansion_eq]
    exact execAll_wideLoad (state := fun r u => { s with freq := r, upc := u }) (fun n _ _ => exec_ldf_eq n _) rfl
      v s.freq s.upc
  · intro v s
    rw [ldd16Expansion_eq]
    exact execAll_wideLoad (state := fun r u => { s with din := r, upc := u }) (fun n _ _ => exec_ldd_eq n _) rfl
      v s.din s.upc

end Sys2Proof.Machine

/-! The timers (40_timers.md): what a tick and the three micro-ops do to a timer, all that a step can do to one and by
which cause, and the ticks a timer holds along a run. -/

namespace Sys2Proof.Machine

/-! ### The tick -/

/-- R101 and R107 without the saturating increment: the carry goes into the tally unless it stands at 65535. -/
theorem Timer.tick_eq_sticking (t : Timer) : t.tick = {
    cnt := if t.run then t.cnt + 1 else t.cnt
    ovf := if t.run ∧ t.cnt = 255 ∧ t.ovf ≠ 65535 then t.ovf + 1 else t.ovf
    run := t.run } := by
  rw [Timer.tick_eq, Timer.mk.injEq, satInc_eq_ite]
  refine ⟨rfl, ?_, rfl⟩
  by_cases hmax : t.ovf = 65535
  · rw [if_pos hmax, ← hmax, ite_self, if_neg (fun h => h.2.2 rfl)]
  · simp only [hmax, if_false, ne_eq, not_false_eq_true, and_true]

/-- The step of an agent that has a next state `u` answers `u` in every well-formed configuration and in no other. -/
theorem step_eq_next_iff {s t u : State} (h : turnStep s.nextTurn s.takeTurn = .next u) :
    step s = .next t ↔ s.params.wellFormed = true ∧ t = u := by
  by_cases hw : s.params.wellFormed = true
  · simp [step_of_wellFormed hw, h, hw, eq_comm]
  · simp [step_eq_refused_iff.mpr hw, hw]

theorem step_tickM_iff {s t : State} {rest : List Turn} (h : s.schedule = .tickM :: rest) :
    step s = .next t ↔ s.params.wellFormed = true ∧ t = { s with schedule := rest, mt := s.mt.tick } :=
  step_eq_next_iff (by simp [State.nextTurn, turnStep, State.tickM, State.takeTurn, h])

theorem step_tickC_iff {s t : State} {rest : List Turn} (h : s.schedule = .tickC :: rest) :
    step s = .next t ↔ s.params.wellFormed = true ∧ t = { s with schedule := rest, ct := s.ct.tick } :=
  step_eq_next_iff (by simp [State.nextTurn, turnStep, State.tickC, State.takeTurn, h])

/-- Settles O12: the step of a tick is `Timer.tick` on its own timer. -/
theorem tickCountsInRunningTimer : Obligations.TickCountsInRunningTimer := by
  unfold Obligations.TickCountsInRunningTimer
  intro s rest hw
  constructor
  · intro hsched
    exact (step_tickM_iff hsched).mpr ⟨hw, by rw [Timer.tick_eq_sticking]⟩
  · intro hsched
    exact (step_tickC_iff hsched).mpr ⟨hw, by rw [Timer.tick_eq_sticking]⟩

theorem run_succ_tickM_iff {k : Nat} {s t : State} {rest : List Turn} (h : s.schedule = .tickM :: rest) :
    Run (k + 1) s t ↔ s.params.wellFormed = true ∧ Run k { s with schedule := rest, mt := s.mt.tick } t := by
  simp only [run_succ, step_tickM_iff h, and_assoc, exists_and_left, exists_eq_left]

theorem run_succ_tickC_iff {k : Nat} {s t : State} {rest : List Turn} (h : s.schedule = .tickC :: rest) :
    Run (k + 1) s t ↔ s.params.wellFormed = true ∧ Run k { s with schedule := rest, ct := s.ct.tick } t := by
  simp only [run_succ, step_tickC_iff h, and_assoc, exists_and_left, exists_eq_left]

/-- Settles O18: in either order the configuration is checked twice and both timers have ticked once. -/
theorem ticksOfTheTwoTimersCommute : Obligations.TicksOfTheTwoTimersCommute := by
  unfold Obligations.TicksOfTheTwoTimersCommute
  intro s t rest
  have hmc : Run 2 { s with schedule := .tickM :: .tickC :: rest } t ↔ s.params.wellFormed = true
      ∧ s.params.wellFormed = true ∧ Run 0 { s with schedule := rest, mt := s.mt.tick, ct := s.ct.tick } t :=
    (run_succ_tickM_iff rfl).trans (and_congr_right' (run_succ_tickC_iff rfl))
  have hcm : Run 2 { s with schedule := .tickC :: .tickM :: rest } t ↔ s.params.wellFormed = true
      ∧ s.params.wellFormed = true ∧ Run 0 { s with schedule := rest, mt := s.mt.tick, ct := s.ct.tick } t :=
    (run_succ_tickC_iff rfl).trans (and_congr_right' (run_succ_tickM_iff rfl))
  exact hmc.trans hcm.symm

/-! ### The micro-ops -/

theorem Timer.stop_if (b : Bool) (t : Timer) : (if b then t.stop else t) = { t with run := t.run && !b } := by
  cases b <;> simp [Timer.stop]

theorem Timer.clear_if (b : Bool) (t : Timer) : (if b then t.clear else t) = {
    cnt := if b then 0 else t.cnt
    ovf := if b then 0 else t.ovf
    run := t.run } := by
  cases b <;> rfl

theorem Timer.start_if (b : Bool) (t : Timer) : (if b then t.start else t) = { t with run := t.run || b } := by
  cases b <;> simp [Timer.start]

/-- Settles O14: `Timer.stop` on the timers the mask selects. -/
theorem tstopStopsSelectedTimers : Obligations.TstopStopsSelectedTimers := by
  unfold Obligations.TstopStopsSelectedTimers
  intro m s
  rw [exec, execTstop, State.advance_eq, State.onTimers, Timer.stop_if, Timer.stop_if]
  rfl

/-- Settles O15: `Timer.clear` on the timers the mask selects. -/
theorem trstZeroesSelectedTimers : Obligations.TrstZeroesSelectedTimers := by
  unfold Obligations.TrstZeroesSelectedTimers
  intro m s
  rw [exec, execTrst, State.advance_eq, State.onTimers, Timer.clear_if, Timer.clear_if]
  rfl

/-- Settles O16: `Timer.start` on the timers the mask selects. -/
theorem tstartStartsSelectedTimers : Obligations.TstartStartsSelectedTimers := by
  unfold Obligations.TstartStartsSelectedTimers
  intro m s
  rw [exec, execTstart, State.advance_eq, State.onTimers, Timer.start_if, Timer.start_if]
  rfl

/-! ### Either timer -/

/-- A timer's name, the X ∈ {MT, CT} of 40_timers.md R100: what holds of either timer is said once, of X. -/
inductive TimerId where
  | mt
  | ct

/-- The registers of X. -/
def TimerId.timer : TimerId → State → Timer
  | .mt, s => s.mt
  | .ct, s => s.ct

/-- The masks that select X (30_encoding.md R82 (b)). -/
def TimerId.selects : TimerId → TimerMask → Bool
  | .mt => selectsMT
  | .ct => selectsCT

/-- The turn that is a tick of X. -/
def TimerId.tickTurn : TimerId → Turn
  | .mt => .tickM
  | .ct => .tickC

/-- The next step is a tick that a running X counts. -/
def TimerId.countsNext : TimerId → State → Bool
  | .mt => State.countsMTNext
  | .ct => State.countsCTNext

/-- The next step resets X. -/
def TimerId.clearsNext : TimerId → State → Bool
  | .mt => State.clearsMTNext
  | .ct => State.clearsCTNext

theorem TimerId.countsNext_eq (x : TimerId) (s : State) :
    x.countsNext s = (decide (s.nextTurn = x.tickTurn) && (x.timer s).run) := by
  cases x <;> rfl

theorem selectsMT_iff {m : TimerMask} : selectsMT m = true ↔ m = 1 ∨ m = 3 := by
  revert m
  decide

theorem selectsCT_iff {m : TimerMask} : selectsCT m = true ↔ m = 2 ∨ m = 3 := by
  revert m
  decide

/-- The next micro-op is a `TSTOP`, `TRST` or `TSTART`, according to `op`, whose mask selects X. -/
def TimerId.opNext (x : TimerId) (op : TimerMask → Instr) (s : State) : Prop :=
  ∃ m, s.nextOp = some (op m) ∧ x.selects m = true

theorem TimerId.opNext_mt_iff {op : TimerMask → Instr} {s : State} :
    TimerId.mt.opNext op s ↔ s.nextOp = some (op 1) ∨ s.nextOp = some (op 3) := by
  simp only [TimerId.opNext, TimerId.selects, selectsMT_iff, and_or_left, exists_or, exists_eq_right]

theorem TimerId.opNext_ct_iff {op : TimerMask → Instr} {s : State} :
    TimerId.ct.opNext op s ↔ s.nextOp = some (op 2) ∨ s.nextOp = some (op 3) := by
  simp only [TimerId.opNext, TimerId.selects, selectsCT_iff, and_or_left, exists_or, exists_eq_right]

theorem TimerId.clearsNext_iff {x : TimerId} {s : State} :
    x.clearsNext s = true ↔ s.resetsNext = true ∨ x.opNext .trst s := by
  cases x with
  | mt =>
    simp only [TimerId.clearsNext, State.clearsMTNext, TimerId.opNext_mt_iff, Bool.or_eq_true, decide_eq_true_eq,
      or_assoc]
  | ct =>
    simp only [TimerId.clearsNext, State.clearsCTNext, TimerId.opNext_ct_iff, Bool.or_eq_true, decide_eq_true_eq,
      or_assoc]

/-! ### All that a step can do to a timer -/

/-- A micro-op on the timers of a mask acts on X if the mask selects X and keeps it otherwise (R106). -/
theorem TimerId.timer_onTimers_cases (x : TimerId) (m : TimerMask) (f : Timer → Timer) (s : State) :
    x.timer (s.onTimers m f).advance = x.timer s
      ∨ x.selects m = true ∧ x.timer (s.onTimers m f).advance = f (x.timer s) := by
  have h : x.timer (s.onTimers m f).advance = if x.selects m then f (x.timer s) else x.timer s := by
    cases x <;> rfl
  cases hm : x.selects m
  · exact .inl (by simp [h, hm])
  · exact .inr ⟨rfl, by simp [h, hm]⟩

theorem TimerId.timer_captureEdge_cases (x : TimerId) (s : State) :
    x.timer s.captureEdge = x.timer s
      ∨ x = .mt ∧ s.pulseCount = 0 ∧ x.timer s.captureEdge = (x.timer s).start := by
  cases x with
  | ct => exact .inl rfl
  | mt =>
    by_cases hfirst : s.pulseCount = 0
    · exact .inr ⟨rfl, hfirst, if_pos hfirst⟩
    · exact .inl (if_neg hfirst)

theorem State.ChangesOnlyDriver.timer {s t : State} (h : s.ChangesOnlyDriver t) (x : TimerId) :
    x.timer t = x.timer s := by
  rw [State.ChangesOnlyDriver] at h
  rw [h]
  cases x <;> rfl

/-- The three timer micro-ops act on a selected timer; no other micro-op writes one. -/
theorem exec_timer_cases {i : Instr} {s t : State} (x : TimerId) (h : exec i s = .next t) :
    x.timer t = x.timer s ∨ ∃ m, x.selects m = true
      ∧ (i = .tstop m ∧ x.timer t = (x.timer s).stop
        ∨ i = .trst m ∧ x.timer t = (x.timer s).clear
        ∨ i = .tstart m ∧ x.timer t = (x.timer s).start) := by
  cases i with
  | tstop m =>
    cases h
    exact (x.timer_onTimers_cases m .stop s).imp_right fun ⟨hm, heq⟩ => ⟨m, hm, .inl ⟨rfl, heq⟩⟩
  | trst m =>
    cases h
    exact (x.timer_onTimers_cases m .clear s).imp_right fun ⟨hm, heq⟩ => ⟨m, hm, .inr (.inl ⟨rfl, heq⟩)⟩
  | tstart m =>
    cases h
    exact (x.timer_onTimers_cases m .start s).imp_right fun ⟨hm, heq⟩ => ⟨m, hm, .inr (.inr ⟨rfl, heq⟩)⟩
  | dwr => exact .inl ((execDwr_changesOnlyDriver h).timer x)
  | waitc => obtain rfl | rfl := execWaitc_cases h <;> exact .inl (by cases x <;> rfl)
  | _ => cases h; exact .inl (by cases x <;> rfl)

/-- What one step can have done to X: each change with its cause. -/
inductive TimerId.Moves (x : TimerId) (s t : State) : Prop where
  /-- RESET, by whatever form. -/
  | reset (cause : s.resetsNext = true) (effect : x.timer t = { cnt := 0, ovf := 0, run := false })
  /-- R103. -/
  | stop (cause : x.opNext .tstop s) (effect : x.timer t = (x.timer s).stop)
  /-- R104. -/
  | clear (cause : x.opNext .trst s) (effect : x.timer t = (x.timer s).clear)
  /-- R105. -/
  | start (cause : x.opNext .tstart s) (effect : x.timer t = (x.timer s).start)
  /-- 41_pulse_capture.md R122. -/
  | firstEdge (which : x = .mt) (cause : s.capturesNext = true ∧ s.pulseCount = 0)
      (effect : x.timer t = (x.timer s).start)
  /-- R101, R102. -/
  | tick (cause : s.nextTurn = x.tickTurn) (effect : x.timer t = (x.timer s).tick)
  | keep (noTick : s.nextTurn ≠ x.tickTurn) (effect : x.timer t = x.timer s)

theorem TimerId.timer_takeTurn (x : TimerId) (s : State) : x.timer s.takeTurn = x.timer s := by
  cases x <;> rfl

theorem TimerId.ne_tickTurn_of_nextTurn_eq_seq {x : TimerId} {s : State} (h : s.nextTurn = .seq) :
    s.nextTurn ≠ x.tickTurn := by
  cases x <;> simp [h, TimerId.tickTurn]

theorem TimerId.ne_tickTurn_of_nextTurn_eq_edge {x : TimerId} {s : State} (h : s.nextTurn = .edge) :
    s.nextTurn ≠ x.tickTurn := by
  cases x <;> simp [h, TimerId.tickTurn]

theorem State.nextTurn_of_capturesNext {s : State} (h : s.capturesNext = true) : s.nextTurn = .edge := by
  simp only [State.capturesNext, Bool.and_eq_true, decide_eq_true_eq] at h
  exact h.1

/-- The sequencer's step: the micro-op it executes decides. -/
theorem exec_timer_moves {i : Instr} {s t : State} (x : TimerId) (hop : s.nextOp = some i)
    (h : exec i s.takeTurn = .next t) : x.Moves s t := by
  obtain ⟨hturn, -, -⟩ := State.nextOp_eq_some.mp hop
  obtain heq | ⟨m, hm, ⟨rfl, heq⟩ | ⟨rfl, heq⟩ | ⟨rfl, heq⟩⟩ := exec_timer_cases x h <;>
    rw [TimerId.timer_takeTurn] at heq
  · exact .keep (TimerId.ne_tickTurn_of_nextTurn_eq_seq hturn) heq
  · exact .stop ⟨m, hop, hm⟩ heq
  · exact .clear ⟨m, hop, hm⟩ heq
  · exact .start ⟨m, hop, hm⟩ heq

/-- The EDGE agent's step: a captured edge starts the Measurement Timer if it is the first of its window. -/
theorem edge_timer_moves {s : State} (x : TimerId) (hturn : s.nextTurn = .edge) : x.Moves s s.takeTurn.edge := by
  have hnotick : s.nextTurn ≠ x.tickTurn := TimerId.ne_tickTurn_of_nextTurn_eq_edge hturn
  cases hinh : s.inh with
  | true =>
    refine .keep hnotick ?_
    rw [State.edge_of_inh (s := s.takeTurn) hinh, TimerId.timer_takeTurn]
  | false =>
    have hcapture : s.takeTurn.edge = s.takeTurn.captureEdge := by simp [State.edge, hinh]
    rw [hcapture]
    obtain heq | ⟨hx, hfirst, heq⟩ := x.timer_captureEdge_cases s.takeTurn <;> rw [TimerId.timer_takeTurn] at heq
    · exact .keep hnotick heq
    · exact .firstEdge hx ⟨by simp [State.capturesNext, hturn, hinh], hfirst⟩ heq

/-- Agent by agent, all that a step can do to a timer. -/
theorem step_timer_moves {s t : State} (x : TimerId) (h : step s = .next t) : x.Moves s t := by
  obtain ⟨-, ⟨hturn, hclear, i, hdec, hexec⟩ | ⟨hturn, -, -, rfl⟩ | ⟨hturn, rfl⟩ | ⟨hturn, rfl⟩ | ⟨hturn, rfl⟩
    | ⟨l, hturn, rfl⟩ | ⟨p, hturn, rfl⟩⟩ := step_next_cases h
  · exact exec_timer_moves x (State.nextOp_eq_some.mpr ⟨hturn, hclear, hdec⟩) hexec
  · exact .keep (TimerId.ne_tickTurn_of_nextTurn_eq_seq hturn) (by cases x <;> rfl)
  · exact edge_timer_moves x hturn
  · cases x with
    | mt => exact .tick hturn rfl
    | ct => exact .keep (by simp [hturn, TimerId.tickTurn]) rfl
  · cases x with
    | mt => exact .keep (by simp [hturn, TimerId.tickTurn]) rfl
    | ct => exact .tick hturn rfl
  · exact .reset (State.resetsNext_of_reset hturn) (by cases x <;> rfl)
  · by_cases hrst : p.rstN = true
    · rw [State.samplePorts_of_rstN hrst]
      exact .keep (by cases x <;> simp [hturn, TimerId.tickTurn]) (by cases x <;> rfl)
    · rw [State.samplePorts_of_not_rstN hrst]
      exact .reset (by simp [State.resetsNext_of_sample hturn, hrst]) (by cases x <;> rfl)

/-! ### The run flags -/

/-- R108: what clears a run flag. -/
theorem step_clears_run {s t : State} (x : TimerId) (h : step s = .next t) (hs : (x.timer s).run = true)
    (ht : (x.timer t).run = false) : s.resetsNext = true ∨ x.opNext .tstop s := by
  cases step_timer_moves x h with
  | reset cause _ => exact .inl cause
  | stop cause _ => exact .inr cause
  | clear _ effect => simp [effect, hs] at ht
  | start _ effect => simp [effect] at ht
  | firstEdge _ _ effect => simp [effect] at ht
  | tick _ effect => simp [effect, hs] at ht
  | keep _ effect => simp [effect, hs] at ht

/-- R108: what sets a run flag. -/
theorem step_sets_run {s t : State} (x : TimerId) (h : step s = .next t) (hs : (x.timer s).run = false)
    (ht : (x.timer t).run = true) :
    x.opNext .tstart s ∨ x = .mt ∧ s.capturesNext = true ∧ s.pulseCount = 0 := by
  cases step_timer_moves x h with
  | reset _ effect => simp [effect] at ht
  | stop _ effect => simp [effect] at ht
  | clear _ effect => simp [effect, hs] at ht
  | start cause _ => exact .inl cause
  | firstEdge which cause _ => exact .inr ⟨which, cause⟩
  | tick _ effect => simp [effect, hs] at ht
  | keep _ effect => simp [effect, hs] at ht

/-- Settles O17: the causes of either timer, with its masks written out. -/
theorem runFlagsChangeOnlyByTheirCauses : Obligations.RunFlagsChangeOnlyByTheirCauses := by
  unfold Obligations.RunFlagsChangeOnlyByTheirCauses
  intro s t h
  refine ⟨fun hs ht => ?_, fun hs ht => ?_, fun hs ht => ?_, fun hs ht => ?_⟩
  · exact (step_clears_run .mt h hs ht).imp_right TimerId.opNext_mt_iff.mp
  · exact (step_clears_run .ct h hs ht).imp_right TimerId.opNext_ct_iff.mp
  · obtain hop | ⟨-, hedge⟩ := step_sets_run .mt h hs ht
    · exact or_assoc.mp (.inl (TimerId.opNext_mt_iff.mp hop))
    · exact .inr (.inr hedge)
  · obtain hop | ⟨hx, -⟩ := step_sets_run .ct h hs ht
    · exact TimerId.opNext_ct_iff.mp hop
    · cases hx

/-! ### The ticks a timer holds -/

/-- A timer at zero that has since counted `n` ticks: the counter wraps, the tally sticks (R107). -/
def Timer.HoldsTicks (t : Timer) (n : Nat) : Prop :=
  t.cnt.toNat = n % 256 ∧ t.ovf.toNat = min (n / 256) 65535

theorem Timer.holdsTicks_zero {t : Timer} (hovf : t.ovf = 0) (hcnt : t.cnt = 0) : t.HoldsTicks 0 := by
  simp [Timer.HoldsTicks, hovf, hcnt]

/-- Starting and stopping keep the ticks. -/
@[simp] theorem Timer.stop_holdsTicks {t : Timer} {n : Nat} : t.stop.HoldsTicks n ↔ t.HoldsTicks n := Iff.rfl
@[simp] theorem Timer.start_holdsTicks {t : Timer} {n : Nat} : t.start.HoldsTicks n ↔ t.HoldsTicks n := Iff.rfl

/-- A tick is counted while the timer runs: the counter wraps at every 256th tick held, and only then does the tally
count. -/
theorem Timer.HoldsTicks.tick {t : Timer} {n : Nat} (h : t.HoldsTicks n) : t.tick.HoldsTicks (n + t.run.toNat) := by
  obtain ⟨hcnt, hovf⟩ := h
  rw [Timer.tick_eq, Timer.HoldsTicks]
  cases hrun : t.run with
  | false => simpa using ⟨hcnt, hovf⟩
  | true =>
    have hwrap : t.cnt = 255 ↔ n % 256 = 255 := by rw [← hcnt, ← BitVec.toNat_inj]; rfl
    simp only [if_true, true_and, hwrap, Bool.toNat_true, BitVec.toNat_add, hcnt]
    refine ⟨by simp [Nat.add_mod], ?_⟩
    split
    · rw [satInc_toNat, hovf]; omega
    · rw [hovf]; omega

/-- Up to the largest 24-bit number the pair holds the number itself; beyond it the tally has stuck (R110). -/
theorem Timer.HoldsTicks.reads {t : Timer} {n : Nat} (h : t.HoldsTicks n) :
    (n ≤ 16777215 → t.ovf.toNat * 256 + t.cnt.toNat = n)
      ∧ (16777215 < n → t.ovf.toNat = 65535 ∧ t.cnt.toNat = n % 256) := by
  obtain ⟨hcnt, hovf⟩ := h
  omega

/-- One step adds the tick it counts, if it does not reset the timer. -/
theorem step_holdsTicks {s t : State} (x : TimerId) (h : step s = .next t) (hkeep : x.clearsNext s = false) {n : Nat}
    (hs : (x.timer s).HoldsTicks n) : (x.timer t).HoldsTicks (n + (x.countsNext s).toNat) := by
  have hnocount (hturn : s.nextTurn ≠ x.tickTurn) : n + (x.countsNext s).toNat = n := by
    simp [TimerId.countsNext_eq, hturn]
  have hnotick {op : TimerMask → Instr} (hop : x.opNext op s) : s.nextTurn ≠ x.tickTurn := by
    obtain ⟨m, hm, -⟩ := hop
    exact TimerId.ne_tickTurn_of_nextTurn_eq_seq (State.nextOp_eq_some.mp hm).1
  cases step_timer_moves x h with
  | reset cause _ => simp [TimerId.clearsNext_iff.mpr (.inl cause)] at hkeep
  | stop cause effect => rwa [effect, hnocount (hnotick cause), Timer.stop_holdsTicks]
  | clear cause _ => simp [TimerId.clearsNext_iff.mpr (.inr cause)] at hkeep
  | start cause effect => rwa [effect, hnocount (hnotick cause), Timer.start_holdsTicks]
  | firstEdge _ cause effect =>
    have hedge := State.nextTurn_of_capturesNext cause.1
    rwa [effect, hnocount (TimerId.ne_tickTurn_of_nextTurn_eq_edge hedge), Timer.start_holdsTicks]
  | tick cause effect =>
    rw [effect, TimerId.countsNext_eq, decide_eq_true cause, Bool.true_and]
    exact hs.tick
  | keep noTick effect => rwa [effect, hnocount noTick]

/-- A run that does not reset the timer adds the ticks counted along it. -/
theorem run_holdsTicks {k : Nat} {s t : State} (x : TimerId) (h : Run k s t) :
    ∀ n, neverSteps x.clearsNext k s = true → (x.timer s).HoldsTicks n →
      (x.timer t).HoldsTicks (n + countSteps x.countsNext k s) := by
  refine run_induction (P := fun k s t => ∀ n, neverSteps x.clearsNext k s = true → (x.timer s).HoldsTicks n →
    (x.timer t).HoldsTicks (n + countSteps x.countsNext k s)) ?zero ?succ h
  case zero => exact fun s n _ hs => hs
  case succ =>
    intro k s u t hstep _ ih n hnever hs
    simp only [neverSteps_succ hstep, Bool.and_eq_true, Bool.not_eq_true'] at hnever
    obtain ⟨hkeep, hrest⟩ := hnever
    rw [countSteps_succ hstep, ← Nat.add_assoc]
    exact ih _ hrest (step_holdsTicks x hstep hkeep hs)

theorem run_holdsTicks_of_zero {k : Nat} {s t : State} (x : TimerId) (h : Run k s t) (hovf : (x.timer s).ovf = 0)
    (hcnt : (x.timer s).cnt = 0) (hnever : neverSteps x.clearsNext k s = true) :
    (x.timer t).HoldsTicks (countSteps x.countsNext k s) := by
  simpa using run_holdsTicks x h 0 hnever (Timer.holdsTicks_zero hovf hcnt)

/-- Settles O13, by induction over the run, for either timer. -/
theorem timerHoldsElapsedTicks : Obligations.TimerHoldsElapsedTicks := by
  unfold Obligations.TimerHoldsElapsedTicks
  intro k s t h
  constructor
  · intro hovf hcnt hnever
    exact (run_holdsTicks_of_zero .mt h hovf hcnt hnever).reads
  · intro hovf hcnt hnever
    exact (run_holdsTicks_of_zero .ct h hovf hcnt hnever).reads

end Sys2Proof.Machine

/-! Pulse capture (41_pulse_capture.md): what a captured edge writes, the micro-ops that write the capture, all that a
step without `PCCLR` and RESET can do to the count and the snapshot, and what both hold along a run; the edge detector
and the cycle of the clocked reference. -/

namespace Sys2Proof.Machine

/-! ### The edge -/

/-- 41_pulse_capture.md R122. -/
theorem State.edge_of_not_inh {s : State} (h : s.inh = false) : s.edge = s.captureEdge := by
  simp [State.edge, h]

/-- The action of R122 without the saturating increment and the timer's operation: the count sticks at 65535, and the
edge that finds the count at 0 sets `MT_RUN`. -/
theorem State.captureEdge_eq (s : State) : s.captureEdge = { s with
    snapOvf := s.mt.ovf
    snapTicks := s.mt.cnt
    pulseCount := if s.pulseCount = 65535 then 65535 else s.pulseCount + 1
    mt := { s.mt with run := s.mt.run || s.pulseCount == 0 } } := by
  rw [State.captureEdge, satInc_eq_ite, ← Timer.start_if]
  simp only [beq_iff_eq]

/-- The step of the agent whose turn the schedule begins with, that turn taken from it. -/
theorem step_of_schedule {s : State} {turn : Turn} {rest : List Turn} (hw : s.params.wellFormed = true)
    (h : s.schedule = turn :: rest) : step s = turnStep turn { s with schedule := rest } := by
  rw [step_of_wellFormed hw, State.nextTurn, State.takeTurn, h, List.headD_cons, List.tail_cons]

/-- Settles O19: the step of an edge is `State.edge`, which `INH` decides. -/
theorem edgeIsCapturedUnlessInhibited : Obligations.EdgeIsCapturedUnlessInhibited := by
  unfold Obligations.EdgeIsCapturedUnlessInhibited
  intro s rest hw hsched
  rw [step_of_schedule hw hsched, turnStep]
  constructor
  · intro hinh
    rw [State.edge_of_inh (s := { s with schedule := rest }) hinh]
  · intro hinh
    rw [State.edge_of_not_inh (s := { s with schedule := rest }) hinh, State.captureEdge_eq]

/-! ### The micro-ops -/

/-- Settles O20: the three writes of `PCCLR`, and advancing is adding 1 to `UPC`. -/
theorem pcclrClearsCountAndSnapshot : Obligations.PcclrClearsCountAndSnapshot := by
  unfold Obligations.PcclrClearsCountAndSnapshot
  intro s
  rw [exec, execPcclr, State.advance_eq]

theorem exec_inh_eq (s : State) : exec .inh s = .next { s with inh := true, upc := s.upc + 1 } := by
  rw [exec, execInh, State.advance_eq]

theorem exec_ena_eq (s : State) : exec .ena s = .next { s with inh := false, upc := s.upc + 1 } := by
  rw [exec, execEna, State.advance_eq]

/-- Settles O21: where `INH` = 1 stands, `INH` writes the value that is there. -/
theorem inhSetsTheInhibit : Obligations.InhSetsTheInhibit := by
  unfold Obligations.InhSetsTheInhibit
  intro s
  refine ⟨exec_inh_eq s, fun hinh => ?_⟩
  rw [exec_inh_eq, ← hinh]

/-- Settles O22: where `INH` = 0 stands, `ENA` writes the value that is there. -/
theorem enaClearsTheInhibit : Obligations.EnaClearsTheInhibit := by
  unfold Obligations.EnaClearsTheInhibit
  intro s
  refine ⟨exec_ena_eq s, fun hinh => ?_⟩
  rw [exec_ena_eq, ← hinh]

/-! ### All that a step can do to the count and the snapshot -/

/-- The snapshot `{SNAP_OVF, SNAP_TICKS}` (10_state.md R26). -/
def State.snapshot (s : State) : Tally × TickCount := (s.snapOvf, s.snapTicks)

/-- A timer's position `{X_OVF, X_CNT}` (10_state.md R24). -/
def Timer.position (t : Timer) : Tally × TickCount := (t.ovf, t.cnt)

theorem State.captureEdge_snapshot (s : State) : s.captureEdge.snapshot = s.mt.position := rfl

/-- The pulse count and the snapshot keep their values. -/
structure State.SameWindow (s t : State) : Prop where
  pulseCount : t.pulseCount = s.pulseCount
  snapshot : t.snapshot = s.snapshot

theorem State.ChangesOnlyDriver.sameWindow {s t : State} (h : s.ChangesOnlyDriver t) : s.SameWindow t := by
  rw [State.ChangesOnlyDriver] at h
  rw [h]
  exact ⟨rfl, rfl⟩

/-- `PCCLR` is the only micro-op that writes the count or the snapshot. -/
theorem exec_sameWindow {i : Instr} {s t : State} (h : exec i s = .next t) (hpcclr : i ≠ .pcclr) : s.SameWindow t := by
  cases i with
  | pcclr => exact absurd rfl hpcclr
  | dwr => exact (execDwr_changesOnlyDriver h).sameWindow
  | waitc => obtain rfl | rfl := execWaitc_cases h <;> exact ⟨rfl, rfl⟩
  | _ => cases h; exact ⟨rfl, rfl⟩

theorem State.capturesNext_iff {s : State} : s.capturesNext = true ↔ s.nextTurn = .edge ∧ s.inh = false := by
  simp [State.capturesNext]

theorem State.capturesNext_eq_false_of_nextTurn_ne_edge {s : State} (h : s.nextTurn ≠ .edge) :
    s.capturesNext = false := by
  simp [State.capturesNext, h]

theorem State.clearsCountNext_eq_false_iff {s : State} :
    s.clearsCountNext = false ↔ s.resetsNext = false ∧ s.nextOp ≠ some .pcclr := by
  simp only [State.clearsCountNext, Bool.or_eq_false_iff, decide_eq_false_iff_not, ne_eq]

/-- Agent by agent: a step that clears neither is a captured edge, with its action, or no captured edge, and then the
count and the snapshot stay. -/
theorem step_captures_or_sameWindow {s t : State} (h : step s = .next t) (hkeep : s.clearsCountNext = false) :
    s.capturesNext = true ∧ t = s.takeTurn.captureEdge ∨ s.capturesNext = false ∧ s.SameWindow t := by
  obtain ⟨hreset, hpcclr⟩ := State.clearsCountNext_eq_false_iff.mp hkeep
  have hnoedge {turn : Turn} (hturn : s.nextTurn = turn) (hne : turn ≠ .edge) : s.capturesNext = false :=
    State.capturesNext_eq_false_of_nextTurn_ne_edge (hturn ▸ hne)
  obtain ⟨-, ⟨hturn, hclear, i, hdec, hexec⟩ | ⟨hturn, -, -, rfl⟩ | ⟨hturn, rfl⟩ | ⟨hturn, rfl⟩ | ⟨hturn, rfl⟩
    | ⟨l, hturn, -⟩ | ⟨p, hturn, rfl⟩⟩ := step_next_cases h
  · rw [State.nextOp_eq_some.mpr ⟨hturn, hclear, hdec⟩, ne_eq, Option.some_inj] at hpcclr
    obtain ⟨hcount, hsnap⟩ := exec_sameWindow hexec hpcclr
    exact .inr ⟨hnoedge hturn nofun, hcount, hsnap⟩
  · exact .inr ⟨hnoedge hturn nofun, rfl, rfl⟩
  · cases hinh : s.inh with
    | true =>
      rw [State.edge_of_inh (s := s.takeTurn) hinh]
      exact .inr ⟨by simp [State.capturesNext, hinh], rfl, rfl⟩
    | false => exact .inl ⟨State.capturesNext_iff.mpr ⟨hturn, hinh⟩, State.edge_of_not_inh (s := s.takeTurn) hinh⟩
  · exact .inr ⟨hnoedge hturn nofun, rfl, rfl⟩
  · exact .inr ⟨hnoedge hturn nofun, rfl, rfl⟩
  · simp [State.resetsNext_of_reset hturn] at hreset
  · have hrst : p.rstN = true := by simpa [State.resetsNext_of_sample hturn] using hreset
    rw [State.samplePorts_of_rstN hrst]
    exact .inr ⟨hnoedge hturn nofun, rfl, rfl⟩

/-! ### The captured edges of a run -/

/-- One step adds the edge it captures, up to 65535. -/
theorem step_pulseCount_toNat {s t : State} (h : step s = .next t) (hkeep : s.clearsCountNext = false) :
    t.pulseCount.toNat = min (s.pulseCount.toNat + s.capturesNext.toNat) 65535 := by
  obtain ⟨hcapture, rfl⟩ | ⟨hcapture, hsame⟩ := step_captures_or_sameWindow h hkeep
  · rw [hcapture, State.captureEdge_pulseCount, satInc_toNat]
    rfl
  · have hmax := s.pulseCount.isLt
    rw [hcapture, hsame.pulseCount, Bool.toNat_false]
    omega

/-- Settles O23, by induction over the run: saturating at every step is saturating once at the end. -/
theorem pulseCountIsCapturedEdges : Obligations.PulseCountIsCapturedEdges := by
  unfold Obligations.PulseCountIsCapturedEdges
  intro k s t h
  refine run_induction (P := fun k s t => neverSteps State.clearsCountNext k s = true →
    t.pulseCount.toNat = min (s.pulseCount.toNat + countSteps State.capturesNext k s) 65535) ?zero ?succ h
  case zero =>
    intro s _
    have hmax := s.pulseCount.isLt
    rw [countSteps]
    omega
  case succ =>
    intro k s u t hstep _ ih hnever
    simp only [neverSteps_succ hstep, Bool.and_eq_true, Bool.not_eq_true'] at hnever
    obtain ⟨hkeep, hrest⟩ := hnever
    rw [ih hrest, step_pulseCount_toNat hstep hkeep, countSteps_succ hstep]
    omega

/-- One step takes the snapshot of the timer as it stood before the step, if it captures an edge. -/
theorem step_snapshot {s t : State} (h : step s = .next t) (hkeep : s.clearsCountNext = false) :
    t.snapshot = if s.capturesNext then s.mt.position else s.snapshot := by
  obtain ⟨hcapture, rfl⟩ | ⟨hcapture, hsame⟩ := step_captures_or_sameWindow h hkeep
  · rw [State.captureEdge_snapshot, if_pos hcapture, State.takeTurn_mt]
  · rw [hsame.snapshot, hcapture, if_neg Bool.false_ne_true]

/-- Along a run that clears neither, the last captured edge decides the snapshot: an edge captured later in the run
goes before the first step's own. -/
theorem run_snapshot {k : Nat} {s t : State} (h : Run k s t) :
    neverSteps State.clearsCountNext k s = true →
      t.snapshot = (lastStep State.capturesNext k s).elim s.snapshot (·.mt.position) := by
  refine run_induction (P := fun k s t => neverSteps State.clearsCountNext k s = true →
    t.snapshot = (lastStep State.capturesNext k s).elim s.snapshot (·.mt.position)) ?zero ?succ h
  case zero => exact fun s _ => rfl
  case succ =>
    intro k s u t hstep _ ih hnever
    simp only [neverSteps_succ hstep, Bool.and_eq_true, Bool.not_eq_true'] at hnever
    obtain ⟨hkeep, hrest⟩ := hnever
    rw [ih hrest, lastStep_succ hstep]
    cases lastStep State.capturesNext k u with
    | some v => rfl
    | none =>
      rw [Option.elim_none, Option.none_or, step_snapshot hstep hkeep]
      cases s.capturesNext <;> rfl

/-- Settles O24: the two registers of the snapshot, with and without a captured edge. -/
theorem snapshotIsTimerAtLastCapturedEdge : Obligations.SnapshotIsTimerAtLastCapturedEdge := by
  unfold Obligations.SnapshotIsTimerAtLastCapturedEdge
  intro k s t h hnever
  have hsnap := run_snapshot h hnever
  refine ⟨fun u hlast => ?_, fun hlast => ?_⟩ <;>
  · rw [hlast] at hsnap
    exact Prod.mk.inj hsnap

/-! ### The clocked reference -/

/-- R121: the sampled level has changed, and it is high exactly if rising edges are the configured ones. -/
theorem qualifies_iff {pol : Polarity} {prev now : Level} :
    qualifies pol prev now = true ↔ prev ≠ now ∧ (now = true ↔ pol = .rising) := by
  cases pol <;> simp [qualifies]

/-- The order of 60_exceptions.md R228, each step with its condition. -/
theorem State.cycleTurns_eq (s : State) (p : PortSample) : s.cycleTurns p =
    (if s.pinPrev ≠ p.pulseIn ∧ (p.pulseIn = true ↔ s.params.pol = .rising) then [.edge] else [])
      ++ (if p.tickM = true then [.tickM] else []) ++ (if p.tickC = true then [.tickC] else [])
      ++ (if p.seqDone = true ∧ s.seqFault = false then [.seq] else []) := by
  simp only [State.cycleTurns, qualifies_iff, Bool.and_eq_true, Bool.not_eq_true']

/-- Settles O26: the sample puts the turns of its cycle before the rest of the schedule. -/
theorem sampleOrdersTheCycle : Obligations.SampleOrdersTheCycle := by
  unfold Obligations.SampleOrdersTheCycle
  intro s p rest hw hsched hrst
  rw [step_of_schedule hw hsched, turnStep, State.samplePorts_of_rstN hrst, State.cycleTurns_eq]

end Sys2Proof.Machine

/-! The frequency estimator (42_frequency_estimator.md): what `EST` writes case by case, the window with more intervals
than ticks, and the monotonicity of the estimate. -/

namespace Sys2Proof.Machine

/-! ### The average period -/

/-- The average period is 0 exactly with fewer ticks than intervals (R138). -/
theorem averagePeriod_eq_zero_iff {p e : Nat} (hp : 2 ≤ p) : averagePeriod p e = 0 ↔ e < p - 1 := by
  rw [averagePeriod, Nat.div_eq_zero_iff_lt (by omega)]

theorem averagePeriod_le_of_elapsed_le (p : Nat) {e e' : Nat} (he : e ≤ e') : averagePeriod p e ≤ averagePeriod p e' :=
  Nat.div_le_div_right he

/-- More intervals in the same ticks are not longer on average. -/
theorem averagePeriod_le_of_pulses_le {p p' : Nat} (e : Nat) (hp : 2 ≤ p) (hpp : p ≤ p') :
    averagePeriod p' e ≤ averagePeriod p e :=
  Nat.div_le_div_left (Nat.sub_le_sub_right hpp 1) (by omega)

/-! ### The three cases of the estimate -/

/-- R137. -/
theorem estimate_of_pulses_le_one (knum : Freq) {p : Nat} (e : Nat) (hp : p ≤ 1) : estimate knum p e = 0 :=
  if_pos hp

/-- R138. -/
theorem estimate_of_averagePeriod_eq_zero (knum : Freq) {p e : Nat} (hp : 2 ≤ p) (havg : averagePeriod p e = 0) :
    estimate knum p e = 0xFFFFFFFF := by
  rw [estimate, if_neg (by omega), if_pos havg]

/-- R136: the second truncating division. -/
theorem estimate_toNat_of_averagePeriod_ne_zero (knum : Freq) {p e : Nat} (hp : 2 ≤ p) (havg : averagePeriod p e ≠ 0) :
    (estimate knum p e).toNat = knum.toNat / averagePeriod p e := by
  unfold averagePeriod at *
  rw [estimate_toNat, if_neg (by omega), if_neg havg]

/-! ### Monotonicity -/

/-- Both laws of R140 at once: the estimate depends on the window by its average period only and does not fall as the
period shrinks. A window of one pulse or none never has the higher estimate. -/
theorem estimate_le_of_averagePeriod_le (knum : Freq) {p p' e e' : Nat} (hp' : 2 ≤ p')
    (havg : 2 ≤ p → averagePeriod p' e' ≤ averagePeriod p e) :
    (estimate knum p e).toNat ≤ (estimate knum p' e').toNat := by
  rcases Nat.lt_or_ge 1 p with hp | hp
  · have hle := havg hp
    by_cases hzero : averagePeriod p' e' = 0
    · rw [estimate_of_averagePeriod_eq_zero knum hp' hzero]
      exact Nat.le_of_lt_succ (estimate knum p e).isLt
    · rw [estimate_toNat_of_averagePeriod_ne_zero knum hp' hzero,
        estimate_toNat_of_averagePeriod_ne_zero knum hp (by omega)]
      exact Nat.div_le_div_left hle (Nat.pos_of_ne_zero hzero)
  · rw [estimate_of_pulses_le_one knum e hp]
    exact Nat.zero_le _

/-- Settles O30: more ticks lengthen the average period, more pulses shorten it. -/
theorem estimateIsMonotone : Obligations.EstimateIsMonotone := by
  unfold Obligations.EstimateIsMonotone
  intro knum
  constructor
  · intro p e e' hp he
    exact estimate_le_of_averagePeriod_le knum hp fun _ => averagePeriod_le_of_elapsed_le p he
  · intro p p' e hpp
    by_cases hp' : p' ≤ 1
    · rw [estimate_of_pulses_le_one knum e hp', estimate_of_pulses_le_one knum e (hpp.trans hp')]
    · exact estimate_le_of_averagePeriod_le knum (by omega) fun hp => averagePeriod_le_of_pulses_le e hp hpp

/-! ### `EST` -/

/-- R136. -/
theorem exec_est_eq (s : State) : exec .est s = .next { s with
    freq := estimate s.params.knum s.pulseCount.toNat s.snapElapsed
    upc := s.upc + 1 } := by
  rw [exec, execEst, State.advance_eq]

/-- R10 (a): the product fits `KNUM`'s 32 bits. -/
theorem knum_toNat_of_wellFormed {p : Params} (h : p.wellFormed = true) : p.knum.toNat = p.tickRate * p.precision := by
  obtain ⟨-, hfits, -⟩ := wellFormed_iff.mp h
  rw [BitVec.toNat_ofNat, Nat.mod_eq_of_lt (Nat.lt_of_le_pred (Nat.two_pow_pos 32) hfits)]

/-- Settles O28: the three cases of the estimate over the snapshot's elapsed ticks. -/
theorem estWritesTheEstimate : Obligations.EstWritesTheEstimate := by
  unfold Obligations.EstWritesTheEstimate
  intro s
  refine ⟨_, exec_est_eq s, rfl, ?degenerate, ?zeroPeriod, ?quotient⟩
  case degenerate => exact estimate_of_pulses_le_one _ _
  case zeroPeriod => exact estimate_of_averagePeriod_eq_zero _
  case quotient =>
    intro hw hcount havg
    rw [← knum_toNat_of_wellFormed hw]
    exact estimate_toNat_of_averagePeriod_ne_zero _ hcount havg

/-! ### The ceiling -/

/-- R151. -/
theorem exec_itp_eq (s : State) : exec .itp s = .next { s with
    din := (interp (calTable s.params) s.freq).zeroExtend 16
    upc := s.upc + 1 } := by
  rw [exec, execItp, State.advance_eq]

/-- From the last breakpoint on, the code is the last entry's (R152). -/
theorem interp_of_last_le {table : List CalEntry} {last : CalEntry} {f : Freq} (hlast : table.getLast? = some last)
    (hle : last.freq.toNat ≤ f.toNat) : interp table f = last.code := by
  cases table with
  | nil => cases hlast
  | cons first rest =>
    have hlast : rest.getLastD first = last := by simpa [List.getLast?_cons] using hlast
    rw [interp, hlast, if_pos (BitVec.le_def.mpr hle)]

/-- No breakpoint lies above the largest frequency. -/
theorem interp_max {table : List CalEntry} {last : CalEntry} (hlast : table.getLast? = some last) :
    interp table 0xFFFFFFFF = last.code :=
  interp_of_last_le hlast (Nat.le_of_lt_succ last.freq.isLt)

/-- Settles O29: the average period is 0, and `ITP` then reads the largest frequency. -/
theorem zeroPeriodGivesTheCeiling : Obligations.ZeroPeriodGivesTheCeiling := by
  unfold Obligations.ZeroPeriodGivesTheCeiling
  intro s hcount hfew
  have hfreq : estimate s.params.knum s.pulseCount.toNat s.snapElapsed = 0xFFFFFFFF :=
    estimate_of_averagePeriod_eq_zero _ hcount ((averagePeriod_eq_zero_iff hcount).mpr hfew)
  refine ⟨_, _, exec_est_eq s, hfreq, exec_itp_eq _, fun last hlast => ?_⟩
  simp only [hfreq, interp_max hlast]

end Sys2Proof.Machine

/-! The calibration interpolator (43_interpolator.md): what `ITP` writes, `Interp` case by case over an arbitrary table,
and its laws over a table in order. -/

namespace Sys2Proof.Machine

/-! ### `ITP` -/

/-- Settles O32: zero extension by four bits is four zeros in front. -/
theorem itpWritesTheCode : Obligations.ItpWritesTheCode := by
  unfold Obligations.ItpWritesTheCode
  intro s
  have hzext (c : Code) : c.zeroExtend 16 = 0#4 ++ c := BitVec.setWidth_eq_append (by decide)
  rw [exec_itp_eq, hzext, calTable]

/-! ### One segment -/

/-- The linear value lies between the codes of its segment. -/
theorem lerp_between {f : Freq} {a b : CalEntry} (ha : a.freq.toNat ≤ f.toNat) (hb : f.toNat ≤ b.freq.toNat) :
    min a.code.toNat b.code.toNat ≤ (lerp f a b).toNat ∧ (lerp f a b).toNat ≤ max a.code.toNat b.code.toNat := by
  have hpart : f.toNat - a.freq.toNat ≤ b.freq.toNat - a.freq.toNat := by omega
  rw [lerp_toNat ha hb]
  split
  case isTrue hrise =>
    have hq := mul_div_le_of_le (d := b.code.toNat - a.code.toNat) hpart
    generalize (_ / _ : Nat) = q at hq ⊢
    omega
  case isFalse hfall =>
    have hq := mul_div_le_of_le (d := a.code.toNat - b.code.toNat) hpart
    generalize (_ / _ : Nat) = q at hq ⊢
    omega

/-- The linear value meets the code at the upper end, so the test 4b of R152 changes no result. -/
theorem lerp_upper {a b : CalEntry} (hab : a.freq.toNat < b.freq.toNat) : lerp b.freq a b = b.code := by
  apply BitVec.eq_of_toNat_eq
  have hspan : 0 < b.freq.toNat - a.freq.toNat := by omega
  rw [lerp_toNat (Nat.le_of_lt hab) (Nat.le_refl _), Nat.mul_div_cancel_left _ hspan, Nat.mul_div_cancel_left _ hspan]
  split <;> omega

theorem lerp_le_lerp {f f' : Freq} {a b : CalEntry} (hcode : a.code.toNat ≤ b.code.toNat)
    (ha : a.freq.toNat ≤ f.toNat) (hff : f.toNat ≤ f'.toNat) (hb : f'.toNat ≤ b.freq.toNat) :
    (lerp f a b).toNat ≤ (lerp f' a b).toNat := by
  rw [lerp_toNat ha (hff.trans hb), lerp_toNat (ha.trans hff) hb, if_pos hcode, if_pos hcode]
  gcongr

/-! ### The first bracketing segment -/

/-- Entries `a` = i and `b` = i + 1 are the first bracketing segment of a scan that starts below `f`: `b` is the first
breakpoint at or above `f` (the argument of R156). -/
structure FirstBracket (table : List CalEntry) (f : Freq) (i : Nat) (a b : CalEntry) : Prop where
  lower : table[i]? = some a
  upper : table[i + 1]? = some b
  below : ∀ (j : Nat) (c : CalEntry), j ≤ i → table[j]? = some c → c.freq.toNat < f.toNat
  le_upper : f.toNat ≤ b.freq.toNat

section

variable {table : List CalEntry} {f : Freq} {i : Nat} {a b : CalEntry}

theorem FirstBracket.lower_lt (h : FirstBracket table f i a b) : a.freq.toNat < f.toNat :=
  h.below i a (Nat.le_refl i) h.lower

/-- Dropping an entry in front of the segment leaves it the first. -/
theorem FirstBracket.tail {e : CalEntry} (h : FirstBracket (e :: table) f (i + 1) a b) :
    FirstBracket table f i a b where
  lower := h.lower
  upper := h.upper
  below j c hj hc := h.below (j + 1) c (Nat.succ_le_succ hj) hc
  le_upper := h.le_upper

/-- Putting an entry below `f` in front of the table leaves the segment the first. -/
theorem FirstBracket.cons {e : CalEntry} (he : e.freq.toNat < f.toNat) (h : FirstBracket table f i a b) :
    FirstBracket (e :: table) f (i + 1) a b where
  lower := h.lower
  upper := h.upper
  below
    | 0, _, _, hc => by cases hc; exact he
    | j + 1, c, hj, hc => h.below j c (Nat.le_of_succ_le_succ hj) hc
  le_upper := h.le_upper

/-- Between the extremes a first bracketing segment exists, whatever the table (R156). -/
theorem exists_firstBracket {last : CalEntry} (hlast : f.toNat ≤ last.freq.toNat) :
    ∀ {table : List CalEntry} {first : CalEntry}, table.head? = some first → table.getLast? = some last →
      first.freq.toNat < f.toNat → ∃ i a b, FirstBracket table f i a b := by
  intro table
  induction table with
  | nil => intro first hhead; cases hhead
  | cons e rest ih =>
    intro first hhead hgetLast hfirst
    cases hhead
    cases rest with
    | nil =>
      cases hgetLast
      exact absurd hlast (Nat.not_le_of_lt hfirst)
    | cons b rest =>
      by_cases hb : f.toNat ≤ b.freq.toNat
      · refine ⟨0, e, b, rfl, rfl, fun j c hj hc => ?_, hb⟩
        cases Nat.le_zero.mp hj
        cases hc
        exact hfirst
      · obtain ⟨i, a, b', h⟩ := ih rfl hgetLast (Nat.lt_of_not_le hb)
        exact ⟨i + 1, a, b', h.cons hfirst⟩

/-- From a start below `f`, a segment that brackets with none bracketing before it is the first breakpoint at or
above `f`: while no segment brackets, the scan stays below `f`. -/
theorem FirstBracket.of_no_earlier {first : CalEntry} (hhead : table.head? = some first)
    (hfirst : first.freq.toNat < f.toNat) (hlower : table[i]? = some a) (hupper : table[i + 1]? = some b)
    (hb : f.toNat ≤ b.freq.toNat)
    (hnone : ∀ (j : Nat) (c d : CalEntry), j < i → table[j]? = some c → table[j + 1]? = some d →
      ¬(c.freq.toNat ≤ f.toNat ∧ f.toNat ≤ d.freq.toNat)) : FirstBracket table f i a b := by
  refine ⟨hlower, hupper, fun j => ?_, hb⟩
  induction j with
  | zero =>
    intro c _ hc
    rw [List.head?_eq_getElem?, hc] at hhead
    cases hhead
    exact hfirst
  | succ j ih =>
    intro d hj hd
    obtain ⟨hlen, -⟩ := List.getElem?_eq_some_iff.mp hd
    have hc : table[j]? = some table[j] := List.getElem?_eq_getElem (Nat.lt_of_succ_lt hlen)
    have hbelow := ih _ (Nat.le_of_succ_le hj) hc
    have hno := hnone j _ d hj hc hd
    omega

/-- The scan has the linear value of the first bracketing segment. -/
theorem scanSegments_of_firstBracket :
    ∀ {i : Nat} {first : CalEntry} {rest : List CalEntry}, FirstBracket (first :: rest) f i a b →
      scanSegments f first rest = lerp f a b := by
  intro i
  induction i with
  | zero =>
    intro first rest h
    have hlt := h.lower_lt
    have hne : f ≠ a.freq := fun heq => absurd hlt (by simp [heq])
    cases h.lower
    cases rest with
    | nil => cases h.upper
    | cons c rest =>
      cases h.upper
      rw [scanSegments_take (Nat.le_of_lt hlt) h.le_upper, if_neg hne]
      split
      case isTrue hend =>
        subst hend
        exact (lerp_upper hlt).symm
      case isFalse => rfl
  | succ i ih =>
    intro first rest h
    cases rest with
    | nil => cases h.lower
    | cons c rest =>
      have hc := h.below 1 c (by omega) rfl
      rw [scanSegments_skip (by omega)]
      exact ih h.tail

/-! ### The value of `Interp` -/

/-- Below the ceiling, the floor is tested and then the segments are scanned (R152). -/
theorem interp_cons_of_lt_last {first last : CalEntry} {rest : List CalEntry}
    (hgetLast : (first :: rest).getLast? = some last) (hlast : f.toNat < last.freq.toNat) :
    interp (first :: rest) f = if f ≤ first.freq then first.code else scanSegments f first rest := by
  have hgetLastD : rest.getLastD first = last := by simpa [List.getLast?_cons] using hgetLast
  rw [interp, hgetLastD, if_neg (by simpa [BitVec.le_def] using hlast)]

/-- Below the ceiling, up to the first breakpoint, the code is the first entry's. -/
theorem interp_of_le_first {first last : CalEntry} (hhead : table.head? = some first)
    (hgetLast : table.getLast? = some last) (hlast : f.toNat < last.freq.toNat) (hfirst : f.toNat ≤ first.freq.toNat) :
    interp table f = first.code := by
  cases table with
  | nil => cases hhead
  | cons e rest =>
    cases hhead
    rw [interp_cons_of_lt_last hgetLast hlast, if_pos (BitVec.le_def.mpr hfirst)]

/-- Below the ceiling, the first bracketing segment decides. -/
theorem interp_of_firstBracket {last : CalEntry} (hgetLast : table.getLast? = some last)
    (hlast : f.toNat < last.freq.toNat) (h : FirstBracket table f i a b) : interp table f = lerp f a b := by
  cases table with
  | nil => cases hgetLast
  | cons first rest =>
    have hfirst := h.below 0 first (Nat.zero_le i) rfl
    rw [interp_cons_of_lt_last hgetLast hlast, if_neg (by simpa [BitVec.le_def] using hfirst)]
    exact scanSegments_of_firstBracket h

/-- All that `Interp` can do over a table with entries: ceiling, floor, or the first bracketing segment. -/
theorem interp_cases {first last : CalEntry} (hhead : table.head? = some first)
    (hgetLast : table.getLast? = some last) (f : Freq) :
    (last.freq.toNat ≤ f.toNat ∧ interp table f = last.code)
    ∨ (f.toNat < last.freq.toNat ∧ f.toNat ≤ first.freq.toNat ∧ interp table f = first.code)
    ∨ (f.toNat < last.freq.toNat ∧ ∃ i a b, FirstBracket table f i a b ∧ interp table f = lerp f a b) := by
  rcases Nat.lt_or_ge f.toNat last.freq.toNat with hlast | hlast
  · rcases Nat.lt_or_ge first.freq.toNat f.toNat with hfirst | hfirst
    · obtain ⟨i, a, b, h⟩ := exists_firstBracket (Nat.le_of_lt hlast) hhead hgetLast hfirst
      exact .inr (.inr ⟨hlast, i, a, b, h, interp_of_firstBracket hgetLast hlast h⟩)
    · exact .inr (.inl ⟨hlast, hfirst, interp_of_le_first hhead hgetLast hlast hfirst⟩)
  · exact .inl ⟨hlast, interp_of_last_le hgetLast hlast⟩

end

/-- Settles O33: in the scan's range the first bracketing segment has its linear value, which at the upper end is
that entry's code. -/
theorem interpFollowsTheRule : Obligations.InterpFollowsTheRule := by
  unfold Obligations.InterpFollowsTheRule
  intro table f
  refine ⟨fun hempty => by rw [hempty]; rfl, fun first last hhead hgetLast =>
    ⟨interp_of_last_le hgetLast, interp_of_le_first hhead hgetLast, ?scan⟩⟩
  case scan =>
    intro hfirst hlast i a b hlower hupper ha hb hnone
    have h := FirstBracket.of_no_earlier hhead hfirst hlower hupper hb hnone
    rw [interp_of_firstBracket hgetLast hlast h, lerp_toNat ha hb]
    refine ⟨h.lower_lt, ?upperEnd, fun _ hrise => if_pos hrise, fun _ hfall => if_neg (Nat.not_le_of_lt hfall)⟩
    case upperEnd =>
      rintro rfl
      exact lerp_upper h.lower_lt

/-- Settles O34: the first bracketing segment is the one. -/
theorem interpLiesInABracketingSegment : Obligations.InterpLiesInABracketingSegment := by
  unfold Obligations.InterpLiesInABracketingSegment
  intro table f first last hhead hgetLast hfirst hlast
  obtain ⟨i, a, b, h⟩ := exists_firstBracket (Nat.le_of_lt hlast) hhead hgetLast hfirst
  have ha := Nat.le_of_lt h.lower_lt
  rw [interp_of_firstBracket hgetLast hlast h]
  exact ⟨i, a, b, h.lower, h.upper, ha, h.le_upper, lerp_between ha h.le_upper⟩

/-! ### Tables in order -/

/-- A relation that holds between any two entries in order holds between the entries at two indices in order. -/
theorem pairwise_getElem? {α : Type} {R : α → α → Prop} {l : List α} (h : l.Pairwise R) {i j : Nat} {x y : α}
    (hij : i < j) (hx : l[i]? = some x) (hy : l[j]? = some y) : R x y := by
  obtain ⟨hi, rfl⟩ := List.getElem?_eq_some_iff.mp hx
  obtain ⟨hj, rfl⟩ := List.getElem?_eq_some_iff.mp hy
  exact List.pairwise_iff_getElem.mp h i j hi hj hij

/-- Settles O36: a breakpoint that is the first of its frequency is the floor or the upper end of the first bracketing
segment. -/
theorem breakpointsRoundTrip : Obligations.BreakpointsRoundTrip := by
  unfold Obligations.BreakpointsRoundTrip
  intro table k e last hsorted hk hgetLast hcase
  rcases hcase with hend | ⟨hlast, hfresh⟩
  · have he : table.getLast? = some e := by rw [List.getLast?_eq_getElem?, ← hend, Nat.add_sub_cancel, hk]
    exact interp_of_last_le he (Nat.le_refl _)
  · cases k with
    | zero =>
      exact interp_of_le_first (List.head?_eq_getElem?.trans hk) hgetLast hlast (Nat.le_refl _)
    | succ i =>
      obtain ⟨hlen, -⟩ := List.getElem?_eq_some_iff.mp hk
      have h : FirstBracket table e.freq i table[i] e := by
        refine ⟨List.getElem?_eq_getElem _, hk, fun j c hj hc => ?_, Nat.le_refl _⟩
        have hle := pairwise_getElem? hsorted (Nat.lt_succ_of_le hj) hc hk
        have hne := hfresh j c (Nat.lt_succ_of_le hj) hc
        exact Nat.lt_of_le_of_ne hle fun heq => hne (BitVec.eq_of_toNat_eq heq)
      rw [interp_of_firstBracket hgetLast hlast h, lerp_upper h.lower_lt]

section

variable {table : List CalEntry} {first last : CalEntry}

theorem code_le_of_index_le (hcodes : table.Pairwise fun a b => a.code.toNat ≤ b.code.toNat) {i j : Nat}
    {a b : CalEntry} (hij : i ≤ j) (ha : table[i]? = some a) (hb : table[j]? = some b) :
    a.code.toNat ≤ b.code.toNat := by
  rcases Nat.lt_or_eq_of_le hij with hlt | rfl
  · exact pairwise_getElem? hcodes hlt ha hb
  · rw [Option.some.inj (ha.symm.trans hb)]

/-- Over codes that do not fall, the first bracketing segment rises, and its linear value lies between its codes in
order. -/
theorem FirstBracket.lerp_mem (hcodes : table.Pairwise fun a b => a.code.toNat ≤ b.code.toNat) {f : Freq} {i : Nat}
    {a b : CalEntry} (h : FirstBracket table f i a b) :
    a.code.toNat ≤ (lerp f a b).toNat ∧ (lerp f a b).toNat ≤ b.code.toNat := by
  have hrise := code_le_of_index_le hcodes (Nat.le_succ i) h.lower h.upper
  have hlerp := lerp_between (Nat.le_of_lt h.lower_lt) h.le_upper
  rwa [min_eq_left hrise, max_eq_right hrise] at hlerp

/-- A higher frequency's first bracketing segment is the same one or a later one, with no lower linear value. -/
theorem FirstBracket.lerp_le (hcodes : table.Pairwise fun a b => a.code.toNat ≤ b.code.toNat) {f f' : Freq}
    (hff : f.toNat ≤ f'.toNat) {i i' : Nat} {a b a' b' : CalEntry} (h : FirstBracket table f i a b)
    (h' : FirstBracket table f' i' a' b') : (lerp f a b).toNat ≤ (lerp f' a' b').toNat := by
  rcases Nat.lt_trichotomy i i' with hlater | rfl | hearlier
  · calc (lerp f a b).toNat
        ≤ b.code.toNat := (h.lerp_mem hcodes).2
      _ ≤ a'.code.toNat := code_le_of_index_le hcodes hlater h.upper h'.lower
      _ ≤ (lerp f' a' b').toNat := (h'.lerp_mem hcodes).1
  · cases h.lower.symm.trans h'.lower
    cases h.upper.symm.trans h'.upper
    exact lerp_le_lerp (code_le_of_index_le hcodes (Nat.le_succ i) h.lower h.upper) (Nat.le_of_lt h.lower_lt) hff
      h'.le_upper
  · have hbelow : b'.freq.toNat < f.toNat := h.below (i' + 1) b' hearlier h'.upper
    have hreached := h'.le_upper
    omega

/-- Over codes that do not fall, every output lies between the first code and the last. -/
theorem interp_between (hcodes : table.Pairwise fun a b => a.code.toNat ≤ b.code.toNat)
    (hhead : table.head? = some first) (hgetLast : table.getLast? = some last) (f : Freq) :
    first.code.toNat ≤ (interp table f).toNat ∧ (interp table f).toNat ≤ last.code.toNat := by
  have hfirstAt := List.head?_eq_getElem?.symm.trans hhead
  have hlastAt := List.getLast?_eq_getElem?.symm.trans hgetLast
  have hends := code_le_of_index_le hcodes (Nat.zero_le _) hfirstAt hlastAt
  rcases interp_cases hhead hgetLast f with ⟨-, heq⟩ | ⟨-, -, heq⟩ | ⟨-, i, a, b, h, heq⟩
  · rw [heq]
    exact ⟨hends, Nat.le_refl _⟩
  · rw [heq]
    exact ⟨Nat.le_refl _, hends⟩
  · obtain ⟨hlen, -⟩ := List.getElem?_eq_some_iff.mp h.upper
    obtain ⟨hlower, hupper⟩ := h.lerp_mem hcodes
    have hfirst := code_le_of_index_le hcodes (Nat.zero_le i) hfirstAt h.lower
    have hlast := code_le_of_index_le hcodes (Nat.le_pred_of_lt hlen) h.upper hlastAt
    rw [heq]
    exact ⟨hfirst.trans hlower, hupper.trans hlast⟩

/-- Only the codes have to be in order: a higher frequency never brackets in an earlier segment, whatever the order of
the frequencies. -/
theorem interp_le_interp (hcodes : table.Pairwise fun a b => a.code.toNat ≤ b.code.toNat)
    (hhead : table.head? = some first) (hgetLast : table.getLast? = some last) {f f' : Freq}
    (hff : f.toNat ≤ f'.toNat) : (interp table f).toNat ≤ (interp table f').toNat := by
  obtain ⟨-, hle_last⟩ := interp_between hcodes hhead hgetLast f
  obtain ⟨hfirst_le, -⟩ := interp_between hcodes hhead hgetLast f'
  rcases interp_cases hhead hgetLast f' with ⟨-, heq'⟩ | ⟨hlast, hfirst, heq'⟩ | ⟨hlast, i', a', b', h', heq'⟩
  · rwa [heq']
  · rw [heq', interp_of_le_first hhead hgetLast (Nat.lt_of_le_of_lt hff hlast) (hff.trans hfirst)]
  · rcases interp_cases hhead hgetLast f with ⟨hceil, -⟩ | ⟨-, -, heq⟩ | ⟨-, i, a, b, h, heq⟩
    · omega
    · rwa [heq]
    · rw [heq, heq']
      exact h.lerp_le hcodes hff h'

end

/-- Settles O35: the order of the codes is enough, and over an empty table every output is 0. -/
theorem interpIsMonotone : Obligations.InterpIsMonotone := by
  unfold Obligations.InterpIsMonotone
  intro table hsorted f f' hff
  cases table with
  | nil => exact Nat.le_refl _
  | cons first rest =>
    exact interp_le_interp (hsorted.imp And.right) rfl (List.getLast?_eq_some_getLast (List.cons_ne_nil _ _)) hff

end Sys2Proof.Machine

/-! The serial DAC driver (44_dac_driver.md): the entries of one frame and what a receiver reads from them, what `DINIT`
and `DWR` write, all that a step can do to the driver, and what every step keeps. -/

namespace Sys2Proof.Machine

/-! ### The bits of a frame -/

/-- The low `n` bits of a word, most significant first (R176). -/
def lowBits {w : Nat} (v : BitVec w) : Nat → List Level
  | 0 => []
  | n + 1 => v.getLsbD n :: lowBits v n

@[simp] theorem lowBits_length {w : Nat} (v : BitVec w) (n : Nat) : (lowBits v n).length = n := by
  induction n with
  | zero => rfl
  | succ n ih => rw [lowBits, List.length_cons, ih]

/-- Words that agree in their low `n` bits have the same bits there (R174). -/
theorem lowBits_congr {w n : Nat} {v v' : BitVec w} (h : ∀ i < n, v.getLsbD i = v'.getLsbD i) :
    lowBits v n = lowBits v' n := by
  induction n with
  | zero => rfl
  | succ n ih => rw [lowBits, lowBits, h n (Nat.lt_succ_self n), ih fun i hi => h i (Nat.lt_succ_of_lt hi)]

/-- The low `n` bits shifted in after a number `acc` stand below it. -/
theorem foldl_lowBits {w : Nat} (v : BitVec w) (n : Nat) : ∀ acc : Nat,
    (lowBits v n).foldl (fun m b => 2 * m + b.toNat) acc = acc * 2 ^ n + v.toNat % 2 ^ n := by
  induction n with
  | zero => intro acc; simp [lowBits, Nat.mod_one]
  | succ n ih =>
    intro acc
    have hbit : (v.getLsbD n).toNat = v.toNat / 2 ^ n % 2 := Nat.toNat_testBit ..
    rw [lowBits, List.foldl_cons, ih, hbit, Nat.mod_pow_succ]
    ring

/-- Twelve bits read most significant first are the code `DIN[11:0]`. -/
theorem ofNat_bitsToNat_lowBits (d : DinWord) :
    BitVec.ofNat 12 (bitsToNat (lowBits d 12)) = d.extractLsb' 0 12 := by
  rw [bitsToNat, foldl_lowBits]
  apply BitVec.eq_of_toNat_eq
  simp [BitVec.extractLsb'_toNat]

/-! ### The entries of a frame -/

/-- The entries of a frame that sends `bits` (R173), the data line at `data` and the load line at `load` before it: a
bit cell of three entries for each bit, then the load pulse. -/
def frameEntries (data load : Level) : List Level → List Lines
  | [] =>
    [{ dclk := false, ddata := data, dload := load },
     { dclk := false, ddata := data, dload := false },
     { dclk := false, ddata := data, dload := true }]
  | bit :: bits =>
    { dclk := false, ddata := data, dload := load } ::
    { dclk := false, ddata := bit, dload := load } ::
    { dclk := true, ddata := bit, dload := load } :: frameEntries bit load bits

theorem frameEntries_length (load : Level) (bits : List Level) : ∀ data,
    (frameEntries data load bits).length = 3 * bits.length + 3 := by
  induction bits with
  | nil => intro data; rfl
  | cons bit bits ih => intro data; simp only [frameEntries, List.length_cons, ih]; omega

/-- The frame ends with the load line high and the data line at the last bit. -/
theorem frameEntries_getLast? (load : Level) (bits : List Level) : ∀ data, (frameEntries data load bits).getLast?
    = some { dclk := false, ddata := bits.getLastD data, dload := true } := by
  induction bits with
  | nil => intro data; rfl
  | cons bit bits ih => intro data; simp [frameEntries, List.getLast?_cons, ih]

/-- R89: each bit cell has one rising clock edge, with its bit on the data line; the load pulse has none. -/
theorem sampledBits_frameEntries (load : Level) (bits : List Level) : ∀ data prev,
    sampledBits prev (frameEntries data load bits) = bits := by
  induction bits with
  | nil => intro data prev; simp [frameEntries, sampledBits]
  | cons bit bits ih => intro data prev; simp [frameEntries, sampledBits, ih]

/-- R176: between two consecutive entries the data line changes only while the clock is low. -/
def DataStable (prev now : Lines) : Prop := prev.ddata ≠ now.ddata → prev.dclk = false ∧ now.dclk = false

theorem DataStable.of_eq {prev now : Lines} (h : prev.ddata = now.ddata) : DataStable prev now :=
  fun hne => absurd h hne

/-- The data line is written once in a bit cell, after the entry that takes the clock low. -/
theorem frameEntries_dataStable (load : Level) (bits : List Level) : ∀ prev : Lines,
    (prev :: frameEntries prev.ddata load bits).IsChain DataStable := by
  induction bits with
  | nil =>
    intro prev
    simp only [frameEntries, List.isChain_cons_cons, List.isChain_singleton, and_true]
    exact ⟨.of_eq rfl, .of_eq rfl, .of_eq rfl⟩
  | cons bit bits ih =>
    intro prev
    simp only [frameEntries, List.isChain_cons_cons]
    exact ⟨.of_eq rfl, fun _ => ⟨rfl, rfl⟩, .of_eq rfl, ih { dclk := true, ddata := bit, dload := load }⟩

/-- R176: from a high load line, the load line is low in the last entry but one only, and from the entry before it on
the clock stays low. -/
theorem frameEntries_load (bits : List Level) : ∀ (data : Level) (k : Nat) (a : Lines),
    (frameEntries data true bits)[k]? = some a →
      (a.dload = false ↔ k = 3 * bits.length + 1) ∧ (3 * bits.length ≤ k → a.dclk = false) := by
  induction bits with
  | nil =>
    intro data k a h
    match k with
    | 0 | 1 | 2 => cases h; simp
    | k + 3 => simp [frameEntries] at h
  | cons bit bits ih =>
    intro data k a h
    match k with
    | 0 | 1 | 2 =>
      cases h
      rw [List.length_cons]
      exact ⟨⟨nofun, by omega⟩, by omega⟩
    | k + 3 =>
      obtain ⟨hlow, hclk⟩ := ih bit k a h
      rw [List.length_cons]
      exact ⟨hlow.trans (by omega), fun hk => hclk (by omega)⟩

/-! ### The receiver -/

/-- Two equal entries are no edge. -/
theorem Receiver.see_self (r : Receiver) (a : Lines) : r.see a a = r := by
  simp [Receiver.see, shiftedIn]

/-- The first entry of a trace may be read as following itself. -/
theorem recv_cons (a : Lines) (l : List Lines) : recv (a :: l) = Receiver.initial.follow a (a :: l) := by
  rw [recv, Receiver.follow, Receiver.see_self]

/-- What the receiver reads last, it reads from some state after some entry. -/
theorem recv_append {l : List Lines} (l' : List Lines) (h : l' ≠ []) :
    ∃ (r : Receiver) (prev : Lines), recv (l ++ l') = r.follow prev l' := by
  cases l with
  | nil =>
    obtain ⟨a, rest, rfl⟩ := List.exists_cons_of_ne_nil h
    exact ⟨_, _, recv_cons a rest⟩
  | cons a l => exact ⟨_, _, Receiver.follow_append l l' _ _⟩

/-- The load pulse latches after the bits of the frame have been shifted in (R180). -/
theorem follow_frameEntries_out (load : Level) (bits : List Level) : ∀ (data : Level) (r : Receiver) (prev : Lines),
    (r.follow prev (frameEntries data load bits)).out = latchedCode (r.rx ++ bits) := by
  induction bits with
  | nil => intro data r prev; simp [frameEntries, Receiver.follow, Receiver.see, shiftedIn]
  | cons bit bits ih =>
    intro data r prev
    simp [frameEntries, Receiver.follow, ih, Receiver.see, shiftedIn]

/-- Of the bits shifted in only the last twelve count. -/
theorem latchedCode_append {rx bits : List Level} (h : bits.length = 12) :
    latchedCode (rx ++ bits) = some (BitVec.ofNat 12 (bitsToNat bits)) := by
  simp [latchedCode, h]

/-- Entries with the clock low and the load line high, after a high load line, have no edge the receiver acts on. -/
theorem Receiver.follow_idle {l : List Lines} : ∀ {r : Receiver} {prev : Lines}, prev.dload = true →
    (∀ a ∈ l, a.dclk = false ∧ a.dload = true) → r.follow prev l = r := by
  induction l with
  | nil => intros; rfl
  | cons a l ih =>
    intro r prev hprev hl
    obtain ⟨⟨hclk, hload⟩, hrest⟩ := List.forall_mem_cons.mp hl
    have hsee : r.see prev a = r := by simp [Receiver.see, shiftedIn, hclk, hprev]
    rw [Receiver.follow, hsee, ih hload hrest]

theorem recv_append_idle {l l' : List Lines} {idle : Lines} (hlast : (l.getLastD idle).dload = true)
    (hl' : ∀ a ∈ l', a.dclk = false ∧ a.dload = true) : recv (l ++ l') = recv l := by
  cases l with
  | cons a l =>
    rw [List.getLastD_cons] at hlast
    rw [List.cons_append, recv, Receiver.follow_append, Receiver.follow_idle hlast hl', recv]
  | nil =>
    cases l' with
    | nil => rfl
    | cons a l' => exact (recv_cons a l').trans (Receiver.follow_idle (hl' a List.mem_cons_self).2 hl')

/-! ### The micro-ops -/

/-- Settles O37: three pin writes, in the order of R172. -/
theorem dinitDrivesIdleLevels : Obligations.DinitDrivesIdleLevels := by
  unfold Obligations.DinitDrivesIdleLevels
  intro s
  rw [exec, execDinit, State.advance_eq]
  simp [State.pinWrite]

/-- The entries one `DWR` appends, from the lines before it and `DIN`. -/
def dwrFrame (l : Lines) (d : DinWord) : List Lines := frameEntries l.ddata l.dload (lowBits d 12)

/-- R173: the entries bit cell by bit cell. -/
theorem dwrFrame_eq_flatMap (l : Lines) (d : DinWord) : dwrFrame l d =
    ((List.range 12).flatMap fun k =>
      [{ dclk := false, ddata := if k = 0 then l.ddata else d.getLsbD (12 - k), dload := l.dload },
       { dclk := false, ddata := d.getLsbD (11 - k), dload := l.dload },
       { dclk := true, ddata := d.getLsbD (11 - k), dload := l.dload }]) ++
    [{ dclk := false, ddata := d.getLsbD 0, dload := l.dload },
     { dclk := false, ddata := d.getLsbD 0, dload := false },
     { dclk := false, ddata := d.getLsbD 0, dload := true }] := rfl

theorem dwrFrame_length (l : Lines) (d : DinWord) : (dwrFrame l d).length = 39 :=
  frameEntries_length ..

theorem dwrFrame_getLast? (l : Lines) (d : DinWord) :
    (dwrFrame l d).getLast? = some { dclk := false, ddata := d.getLsbD 0, dload := true } :=
  frameEntries_getLast? ..

theorem dwrFrame_ne_nil (l : Lines) (d : DinWord) : dwrFrame l d ≠ [] := List.cons_ne_nil _ _

/-- The top bit of the shifter in pass `j` (R173). -/
theorem shifter_topBit (d : DinWord) {j : Nat} (hj : j < 12) :
    (d.extractLsb' 0 12 <<< j).getLsbD 11 = d.getLsbD (11 - j) := by
  have hle : ¬11 < j := by omega
  simp [hle]

/-- In pass `j` the entry that takes the clock low still shows the bit of the pass before (R173). -/
theorem shifter_previousBit (d : DinWord) (before : Level) {j : Nat} (hj : j < 12) :
    (if j = 0 then before else (d.extractLsb' 0 12 <<< (j - 1)).getLsbD 11)
      = if j = 0 then before else d.getLsbD (12 - j) := by
  split
  · rfl
  · rw [shifter_topBit d (by omega), show 11 - (j - 1) = 12 - j by omega]

/-- R173, R175: what `DWR` leaves. -/
theorem exec_dwr_eq (s : State) : exec .dwr s = .next { s with
    lines := { dclk := false, ddata := s.din.getLsbD 0, dload := true }
    trace := s.trace ++ dwrFrame s.lines s.din
    sr := 0
    bitCnt := 0
    dacOut := s.din.extractLsb' 0 12
    upc := s.upc + 1 } := by
  have hempty : s.din.extractLsb' 0 12 <<< 12 = 0#12 := BitVec.shiftLeft_eq_zero (Nat.le_refl 12)
  have hlast : (s.din.extractLsb' 0 12 <<< 11).getLsbD 11 = s.din.getLsbD 0 := shifter_topBit s.din (by decide)
  rw [exec, execDwr, State.advance_eq, State.loadPulse_eq, State.shiftOut, State.loadShifter_bitCnt,
    show (12 : BitVec 4).toNat = 11 + 1 from rfl, State.shiftBits_succ_eq, dwrFrame_eq_flatMap, ← List.append_assoc]
  simp only [State.loadShifter, hempty, hlast]
  congr 4
  apply List.flatMap_congr
  intro k hk
  have hk : k < 12 := List.mem_range.mp hk
  rw [shifter_topBit s.din hk, shifter_previousBit s.din _ hk]

/-- Settles O38: the frame written out bit cell by bit cell. -/
theorem dwrSendsTheFrame : Obligations.DwrSendsTheFrame := by
  unfold Obligations.DwrSendsTheFrame
  intro s
  rw [exec_dwr_eq, dwrFrame_eq_flatMap, List.append_assoc]

/-- Settles O39: the three readings of a frame, each an induction over its bits. -/
theorem dwrFrameHasTwelveMsbFirstPulses : Obligations.DwrFrameHasTwelveMsbFirstPulses := by
  unfold Obligations.DwrFrameHasTwelveMsbFirstPulses
  intro s
  refine ⟨_, dwrFrame s.lines s.din, exec_dwr_eq s, rfl, dwrFrame_length .., sampledBits_frameEntries .., ?stable, ?load⟩
  case stable =>
    intro k a b ha hb
    obtain ⟨hk, rfl⟩ := List.getElem?_eq_some_iff.mp ha
    obtain ⟨hk', rfl⟩ := List.getElem?_eq_some_iff.mp hb
    exact List.isChain_iff_getElem.mp (frameEntries_dataStable _ _ s.lines) k hk'
  case load =>
    intro hload k a ha
    rw [dwrFrame, hload] at ha
    exact frameEntries_load _ _ k a ha

theorem getLsbD_eq_of_mod_eq {w n i : Nat} {v v' : BitVec w} (h : v.toNat % 2 ^ n = v'.toNat % 2 ^ n) (hi : i < n) :
    v.getLsbD i = v'.getLsbD i := by
  have hbit := congrArg (Nat.testBit · i) h
  simp only [Nat.testBit_mod_two_pow, hi, decide_true, Bool.true_and] at hbit
  exact hbit

/-- Settles O40: the frame, the data line and the recorded code are all read off the low twelve bits. -/
theorem dwrIgnoresHighBitsOfDin : Obligations.DwrIgnoresHighBitsOfDin := by
  unfold Obligations.DwrIgnoresHighBitsOfDin
  intro s d hd
  have hbit (i : Nat) (hi : i < 12) : d.getLsbD i = s.din.getLsbD i := getLsbD_eq_of_mod_eq (n := 12) hd hi
  have hframe : dwrFrame s.lines d = dwrFrame s.lines s.din := by rw [dwrFrame, lowBits_congr hbit, dwrFrame]
  have hcode : d.extractLsb' 0 12 = s.din.extractLsb' 0 12 := BitVec.eq_of_toNat_eq (by simpa using hd)
  refine ⟨_, exec_dwr_eq s, ?_⟩
  rw [exec_dwr_eq, hframe, hcode, hbit 0 (by decide)]

/-- R181: whatever the receiver saw before, the frame of one `DWR` leaves it with the code sent. -/
theorem recv_append_dwrFrame (trace : List Lines) (l : Lines) (d : DinWord) :
    (recv (trace ++ dwrFrame l d)).out = some (d.extractLsb' 0 12) := by
  obtain ⟨r, prev, hrecv⟩ := recv_append (l := trace) _ (dwrFrame_ne_nil l d)
  rw [hrecv, dwrFrame, follow_frameEntries_out, latchedCode_append (lowBits_length d 12), ofNat_bitsToNat_lowBits]

/-- Settles O41: the frame alone is the frame after an empty trace. -/
theorem receiverReadsTheFrame : Obligations.ReceiverReadsTheFrame := by
  unfold Obligations.ReceiverReadsTheFrame
  refine ⟨fun s _ _ => ?frame, fun s _ _ => ?history⟩
  case frame => exact ⟨_, dwrFrame s.lines s.din, exec_dwr_eq s, rfl, recv_append_dwrFrame [] .., rfl⟩
  case history => exact ⟨_, exec_dwr_eq s, recv_append_dwrFrame .., rfl⟩

/-! ### All that a step can do to the driver -/

/-- The registers of the DAC driver and its history keep their values. -/
structure State.SameDriver (s t : State) : Prop where
  lines : t.lines = s.lines
  dacOut : t.dacOut = s.dacOut
  sr : t.sr = s.sr
  bitCnt : t.bitCnt = s.bitCnt
  trace : t.trace = s.trace

theorem State.ChangesOnlyShared.sameDriver {s t : State} (h : s.ChangesOnlyShared t) : s.SameDriver t := by
  rw [State.ChangesOnlyShared] at h
  rw [h]
  exact ⟨rfl, rfl, rfl, rfl, rfl⟩

/-- `DINIT` and `DWR` are the only micro-ops that write the driver. -/
theorem exec_sameDriver {i : Instr} {s t : State} (h : exec i s = .next t) (hdinit : i ≠ .dinit) (hdwr : i ≠ .dwr) :
    s.SameDriver t := by
  cases i with
  | dinit => exact absurd rfl hdinit
  | dwr => exact absurd rfl hdwr
  | waitc => obtain rfl | rfl := execWaitc_cases h <;> exact ⟨rfl, rfl, rfl, rfl, rfl⟩
  | _ => cases h; exact ⟨rfl, rfl, rfl, rfl, rfl⟩

theorem State.applyReset_sameDriver (s : State) (pulseIn : Level) : State.reset.SameDriver (s.applyReset pulseIn) :=
  ⟨rfl, rfl, rfl, rfl, rfl⟩

/-- What one step can have done to the driver: each change with its cause (R178). -/
inductive DriverMoves (s t : State) : Prop where
  /-- RESET, by whatever form. -/
  | reset (cause : s.resetsNext = true) (effect : State.reset.SameDriver t)
  /-- R172. -/
  | dinit (cause : s.nextOp = some .dinit) (effect : exec .dinit s.takeTurn = .next t)
  /-- R173. -/
  | dwr (cause : s.nextOp = some .dwr) (effect : exec .dwr s.takeTurn = .next t)
  | keep (effect : s.takeTurn.SameDriver t)

/-- The sequencer's step: the micro-op it executes decides. -/
theorem exec_driver_moves {i : Instr} {s t : State} (hop : s.nextOp = some i) (h : exec i s.takeTurn = .next t) :
    DriverMoves s t := by
  by_cases hdinit : i = .dinit
  · subst hdinit
    exact .dinit hop h
  by_cases hdwr : i = .dwr
  · subst hdwr
    exact .dwr hop h
  exact .keep (exec_sameDriver h hdinit hdwr)

/-- Agent by agent, all that a step can do to the driver. -/
theorem step_driver_moves {s t : State} (h : step s = .next t) : DriverMoves s t := by
  obtain ⟨-, ⟨hturn, hclear, i, hdec, hexec⟩ | ⟨-, -, -, rfl⟩ | ⟨hturn, -⟩ | ⟨hturn, -⟩ | ⟨hturn, -⟩ | ⟨l, hturn, rfl⟩
    | ⟨p, hturn, rfl⟩⟩ := step_next_cases h
  · exact exec_driver_moves (State.nextOp_eq_some.mpr ⟨hturn, hclear, hdec⟩) hexec
  · exact .keep ⟨rfl, rfl, rfl, rfl, rfl⟩
  · exact .keep (event_step_changesOnlyShared h (.inl hturn)).sameDriver
  · exact .keep (event_step_changesOnlyShared h (.inr (.inl hturn))).sameDriver
  · exact .keep (event_step_changesOnlyShared h (.inr (.inr hturn))).sameDriver
  · exact .reset (State.resetsNext_of_reset hturn) (State.applyReset_sameDriver ..)
  · by_cases hrst : p.rstN = true
    · rw [State.samplePorts_of_rstN hrst]
      exact .keep ⟨rfl, rfl, rfl, rfl, rfl⟩
    · rw [State.samplePorts_of_not_rstN hrst]
      exact .reset (by simp [State.resetsNext_of_sample hturn, hrst]) (State.applyReset_sameDriver ..)

theorem exec_dinit_dacOut {s t : State} (h : exec .dinit s = .next t) : t.dacOut = s.dacOut := by
  cases h
  rfl

/-- Settles O45: each of the driver's moves is RESET, one of the two micro-ops, or none. -/
theorem linesChangeOnlyInDriverOps : Obligations.LinesChangeOnlyInDriverOps := by
  unfold Obligations.LinesChangeOnlyInDriverOps
  intro s t h hreset
  cases step_driver_moves h with
  | reset cause _ => simp [hreset] at cause
  | dinit cause effect =>
    have hout := exec_dinit_dacOut effect
    exact ⟨fun hdinit _ => absurd cause hdinit, fun _ => hout⟩
  | dwr cause _ => exact ⟨fun _ hdwr => absurd cause hdwr, fun hdwr => absurd cause hdwr⟩
  | keep effect => exact ⟨fun _ _ => ⟨effect.lines, effect.trace⟩, fun _ => effect.dacOut⟩

/-! ### The driver at rest -/

theorem State.SameDriver.dacAtRest {s t : State} (h : s.SameDriver t) (hs : s.DacAtRest) : t.DacAtRest := by
  simpa only [State.DacAtRest, h.sr, h.bitCnt, h.lines] using hs

theorem exec_dinit_dacAtRest {s t : State} (h : exec .dinit s = .next t) (hs : s.DacAtRest) : t.DacAtRest := by
  rw [dinitDrivesIdleLevels s] at h
  cases h
  obtain ⟨hsr, hcnt, -, -⟩ := hs
  exact ⟨hsr, hcnt, rfl, rfl⟩

/-- `DWR` ends at rest, whatever it starts from. -/
theorem exec_dwr_dacAtRest {s t : State} (h : exec .dwr s = .next t) : t.DacAtRest := by
  rw [exec_dwr_eq] at h
  cases h
  exact ⟨rfl, rfl, rfl, rfl⟩

/-- Settles O42, move by move. -/
theorem stepKeepsDacAtRest : Obligations.StepKeepsDacAtRest := by
  unfold Obligations.StepKeepsDacAtRest
  intro s t hs h
  cases step_driver_moves h with
  | reset _ effect => exact effect.dacAtRest reset_dacAtRest
  | dinit _ effect => exact exec_dinit_dacAtRest effect hs
  | dwr _ effect => exact exec_dwr_dacAtRest effect
  | keep effect => exact effect.dacAtRest hs

/-! ### The receiver in agreement -/

theorem State.SameDriver.traceEndsAtLines {s t : State} (h : s.SameDriver t) (hs : s.TraceEndsAtLines) :
    t.TraceEndsAtLines := by
  simpa only [State.TraceEndsAtLines, h.trace, h.lines] using hs

theorem State.SameDriver.receiverAgrees {s t : State} (h : s.SameDriver t) (hs : s.ReceiverAgrees) :
    t.ReceiverAgrees := by
  simpa only [State.ReceiverAgrees, h.trace, h.dacOut] using hs

theorem exec_dinit_traceEndsAtLines {s t : State} (h : exec .dinit s = .next t) : t.TraceEndsAtLines := by
  rw [dinitDrivesIdleLevels s] at h
  cases h
  simp [State.TraceEndsAtLines, List.getLastD_eq_getLast?]

/-- At rest, the entries of `DINIT` show the receiver no edge. -/
theorem exec_dinit_receiverAgrees {s t : State} (h : exec .dinit s = .next t) (hrest : s.DacAtRest)
    (hlast : s.TraceEndsAtLines) (hs : s.ReceiverAgrees) : t.ReceiverAgrees := by
  rw [dinitDrivesIdleLevels s] at h
  cases h
  obtain ⟨-, -, -, hload⟩ := hrest
  simp only [State.ReceiverAgrees]
  rw [recv_append_idle ((congrArg Lines.dload hlast).trans hload) (by simp [hload])]
  exact hs

theorem exec_dwr_traceEndsAtLines {s t : State} (h : exec .dwr s = .next t) : t.TraceEndsAtLines := by
  rw [exec_dwr_eq] at h
  cases h
  simp [State.TraceEndsAtLines, List.getLastD_eq_getLast?, dwrFrame_getLast?]

theorem exec_dwr_receiverAgrees {s t : State} (h : exec .dwr s = .next t) : t.ReceiverAgrees := by
  rw [exec_dwr_eq] at h
  cases h
  exact .inr (recv_append_dwrFrame ..)

/-- Settles O43, move by move. -/
theorem stepKeepsReceiverInAgreement : Obligations.StepKeepsReceiverInAgreement := by
  unfold Obligations.StepKeepsReceiverInAgreement
  intro s t hrest hlast hs h
  cases step_driver_moves h with
  | reset _ effect => exact ⟨effect.traceEndsAtLines rfl, effect.receiverAgrees reset_receiverAgrees⟩
  | dinit _ effect =>
    exact ⟨exec_dinit_traceEndsAtLines effect, exec_dinit_receiverAgrees effect hrest hlast hs⟩
  | dwr _ effect => exact ⟨exec_dwr_traceEndsAtLines effect, exec_dwr_receiverAgrees effect⟩
  | keep effect => exact ⟨effect.traceEndsAtLines hlast, effect.receiverAgrees hs⟩

end Sys2Proof.Machine

/-! The control sequencer (45_control_sequencer.md): when the sequencer's turn has a next state and which, the sequencer's
own micro-ops, and the adaptive threshold in both its forms. -/

namespace Sys2Proof.Machine

/-! ### The adaptive threshold -/

/-- Settles O9: P1 and P2 are parts of the check of the parameters. -/
theorem thresholdIsBoundedAndNonIncreasing : Obligations.ThresholdIsBoundedAndNonIncreasing := by
  unfold Obligations.ThresholdIsBoundedAndNonIncreasing
  intro p hw
  obtain ⟨-, -, -, -, hbounded, hmono⟩ := wellFormed_iff.mp hw
  exact ⟨hbounded, hmono⟩

/-- Settles O11: below `T_MAX` by the quotient, until the line meets `T_MIN`; at zero flow the quotient is 0. -/
theorem defaultThresholdForm : Obligations.DefaultThresholdForm := by
  unfold Obligations.DefaultThresholdForm
  intro p hw hform
  obtain ⟨-, -, -, hconstants, -⟩ := wellFormed_iff.mp hw
  obtain ⟨-, hle, -⟩ := hconstants hform
  constructor
  · intro f
    rw [threshold_linearClamp_toNat hform]
    split <;> omega
  · apply BitVec.eq_of_toNat_eq
    rw [threshold_linearClamp_toNat hform, BitVec.ofNat_eq_ofNat, BitVec.toNat_ofNat, Nat.zero_mod, Nat.zero_div,
      Nat.sub_zero, max_eq_right hle]

/-- One piece more at the end of the list: its value from its start on, and below it what the list gave. -/
theorem steppedThreshold_concat (base : Tally) (pieces : List ThreshPiece) (q : ThreshPiece) (f : Freq) :
    steppedThreshold base (pieces ++ [q]) f = if q.start ≤ f then q.value else steppedThreshold base pieces f := by
  simp only [steppedThreshold, List.foldl_append, List.foldl_cons, List.foldl_nil]

/-- The function `g` tabulated: at each of the `n` lowest frequencies, in ascending order, a piece with `g`'s value. -/
def tabulate (g : Freq → Tally) : Nat → List ThreshPiece
  | 0 => []
  | n + 1 => tabulate g n ++ [⟨BitVec.ofNat 32 n, g (BitVec.ofNat 32 n)⟩]

/-- At a tabulated frequency the last piece that has started is that frequency's own. -/
theorem steppedThreshold_tabulate (g : Freq → Tally) (base : Tally) (f : Freq) {n : Nat} (hn : n ≤ 2 ^ 32)
    (hf : f.toNat < n) : steppedThreshold base (tabulate g n) f = g f := by
  induction n with
  | zero => omega
  | succ n ih =>
    have hstart : (BitVec.ofNat 32 n).toNat = n := Nat.mod_eq_of_lt hn
    rw [tabulate, steppedThreshold_concat]
    simp only [BitVec.le_def, hstart]
    split
    case isTrue hle =>
      have hnf : BitVec.ofNat 32 n = f := BitVec.eq_of_toNat_eq (by omega)
      rw [hnf]
    case isFalse hlt => exact ih (by omega) (by omega)

/-- Every function of the frequency, monotone or not, is given by pieces. -/
theorem exists_steppedThreshold_eq (g : Freq → Tally) (base : Tally) :
    ∃ pieces, ∀ f, steppedThreshold base pieces f = g f :=
  ⟨tabulate g (2 ^ 32), fun f => steppedThreshold_tabulate g base f (Nat.le_refl _) f.isLt⟩

/-- Settles O10: the tabulated function is `g`, and the check of its pieces says P1 and P2, which `g` has. -/
theorem everyAdmittedThresholdHasData : Obligations.EveryAdmittedThresholdHasData := by
  unfold Obligations.EveryAdmittedThresholdHasData
  intro g p hbounded hmono
  obtain ⟨pieces, hpieces⟩ := exists_steppedThreshold_eq g 0
  have hthreshold : ∀ f, threshold { p with thresh := .steps 0 pieces } f = g f := hpieces
  refine ⟨0, pieces, threshFits_iff.mpr ⟨nofun, fun f => ?_, fun f f' hff' => ?_⟩, hthreshold⟩
  · rw [hthreshold]
    exact hbounded f
  · rw [hthreshold, hthreshold]
    exact hmono f f' hff'

/-! ### The sequencer's turn -/

/-- R190: a faulted sequencer has no step. -/
theorem seqStep_of_seqFault {s : State} (h : s.seqFault = true) : seqStep s = .fault .sequencerStuck := by
  rw [seqStep, if_pos h]

/-- R190: a legal word is executed. -/
theorem seqStep_of_instr {s : State} {i : Instr} (hclear : s.seqFault = false) (hword : decode s.fetch = .instr i) :
    seqStep s = exec i s := by
  simp only [seqStep, hclear, hword, Bool.false_eq_true, if_false]

/-- R221: an illegal word raises SeqFault. -/
theorem seqStep_of_illegal {s : State} {why : IllegalWord} (hclear : s.seqFault = false)
    (hword : decode s.fetch = .illegal why) : seqStep s = .next s.raiseSeqFault := by
  simp only [seqStep, hclear, hword, Bool.false_eq_true, if_false]

theorem seqStep_exists_next {s : State} (hclear : s.seqFault = false) : ∃ t, seqStep s = .next t := by
  cases hword : decode s.fetch with
  | instr i =>
    rw [seqStep_of_instr hclear hword]
    exact exec_exists_next i s
  | illegal why => exact ⟨_, seqStep_of_illegal hclear hword⟩

/-- On the sequencer's turn the step is the sequencer's, once the turn is taken. -/
theorem step_of_seq_turn {s : State} (hw : s.params.wellFormed = true) (hturn : s.nextTurn = .seq) :
    step s = seqStep s.takeTurn := by
  rw [step_of_wellFormed hw, hturn, turnStep]

/-- Agent by agent: events, RESET and samples always have a next state. -/
theorem turnStep_exists_next {turn : Turn} {s : State} (h : ¬(turn = .seq ∧ s.seqFault = true)) :
    ∃ t, turnStep turn s = .next t := by
  cases turn with
  | seq => exact seqStep_exists_next (by simpa using h)
  | edge => exact ⟨_, rfl⟩
  | tickM => exact ⟨_, rfl⟩
  | tickC => exact ⟨_, rfl⟩
  | reset pulseIn => exact ⟨_, rfl⟩
  | sample p => exact ⟨_, rfl⟩

/-- Settles O6: the faulted sequencer is stuck, and every other turn has a next state. -/
theorem stepStopsOnlyForFaultedSequencer : Obligations.StepStopsOnlyForFaultedSequencer := by
  unfold Obligations.StepStopsOnlyForFaultedSequencer
  intro s hw
  constructor
  · rintro ⟨hturn, hfault⟩
    rw [step_of_seq_turn hw hturn]
    exact seqStep_of_seqFault hfault
  · intro h
    rw [step_of_wellFormed hw]
    exact turnStep_exists_next h

/-- Settles O4: taking the turn changes neither `SEQ_FAULT` nor the word fetched. -/
theorem stepRunsDecodedMicroOp : Obligations.StepRunsDecodedMicroOp := by
  unfold Obligations.StepRunsDecodedMicroOp
  intro s i hw hturn hclear hword
  rw [step_of_seq_turn hw hturn]
  exact seqStep_of_instr hclear hword

/-! ### The sequencer's own micro-ops -/

/-- Settles O46: advancing is adding 1 to `UPC`. -/
theorem nopOnlyAdvances : Obligations.NopOnlyAdvances := by
  unfold Obligations.NopOnlyAdvances
  intro s
  rw [exec, execNop, State.advance_eq]

/-- R192. -/
theorem exec_jmp_eq (t : UAddr) (s : State) : exec (.jmp t) s = .next { s with upc := t } := rfl

/-- R201: a jump to its own address writes the value that is there. -/
theorem exec_jmp_self (s : State) : exec (.jmp s.upc) s = .next s := exec_jmp_eq s.upc s

/-- Settles O47. -/
theorem jmpGoesToItsTarget : Obligations.JmpGoesToItsTarget := by
  unfold Obligations.JmpGoesToItsTarget
  intro t s
  refine ⟨exec_jmp_eq t s, ?_⟩
  rintro rfl
  exact exec_jmp_self s

/-- R193: `WAITC` trips on a cadence tally strictly above the threshold. -/
theorem State.tripped_iff {s : State} :
    s.tripped = true ↔ (threshold s.params s.freq).toNat < s.ct.ovf.toNat :=
  decide_eq_true_iff

/-- R193. -/
theorem exec_waitc_eq (s : State) :
    exec .waitc s = .next (if s.tripped = true then { s with upc := s.upc + 1 } else s) := by
  rw [exec, execWaitc, State.advance_eq]

/-- Settles O48: the two outcomes of the comparison. -/
theorem waitcPollsTheThreshold : Obligations.WaitcPollsTheThreshold := by
  unfold Obligations.WaitcPollsTheThreshold
  intro s
  rw [exec_waitc_eq]
  constructor
  · intro habove
    rw [if_pos (State.tripped_iff.mpr habove)]
  · intro hle
    rw [if_neg (mt State.tripped_iff.mp (Nat.not_lt.mpr hle))]

/-- Settles O49: shifting the nibble in is appending it to the low 28 bits. -/
theorem ldfShiftsNibbleIntoFreq : Obligations.LdfShiftsNibbleIntoFreq := by
  unfold Obligations.LdfShiftsNibbleIntoFreq
  intro n s
  rw [exec_ldf_eq, shiftInNibble_freq]

/-- Settles O50: shifting the nibble in is appending it to the low 12 bits. -/
theorem lddShiftsNibbleIntoDin : Obligations.LddShiftsNibbleIntoDin := by
  unfold Obligations.LddShiftsNibbleIntoDin
  intro n s
  rw [exec_ldd_eq, shiftInNibble_din]

/-! ### The halted sequencer -/

/-- R201. -/
theorem State.halted_iff {s : State} :
    s.halted = true ↔ s.seqFault = false ∧ decode s.fetch = .instr (.jmp s.upc) := by
  simp only [State.halted, Bool.and_eq_true, Bool.not_eq_true', decide_eq_true_eq]

/-- Settles O52: the micro-op that the step executes is a jump to its own address. -/
theorem haltedSequencerChangesNothing : Obligations.HaltedSequencerChangesNothing := by
  unfold Obligations.HaltedSequencerChangesNothing
  intro s hw hturn hhalted
  obtain ⟨hclear, hword⟩ := State.halted_iff.mp hhalted
  rw [stepRunsDecodedMicroOp s (.jmp s.upc) hw hturn hclear hword]
  exact exec_jmp_self s.takeTurn

end Sys2Proof.Machine

/-! Exceptions and events (60_exceptions.md): what every micro-op leaves unchanged, what an illegal word does, all that a
step can do to the sequencer's registers, why a legal micro-program never raises SeqFault, and the full cycle of the
clocked reference. -/

namespace Sys2Proof

/-! ### Legal words -/

theorem beq_reserved_eq_opFormat : ∀ op : BitVec 4, (op == 0xB#4) = decide (opFormat op = .reserved) := by decide

theorem contains_plain_eq_opFormat : ∀ op : BitVec 4,
    [0x0#4, 0x1#4, 0x2#4, 0x6#4, 0x7#4, 0x8#4, 0x9#4, 0xA#4, 0xC#4].contains op = decide (opFormat op = .plain) := by
  decide

theorem contains_mask_eq_opFormat : ∀ op : BitVec 4,
    [0x3#4, 0x4#4, 0x5#4].contains op = decide (opFormat op = .mask) := by decide

/-- The check of 30_encoding.md R84 refuses exactly the words that the decoder answers with illegal. -/
theorem legalWord_iff {w : UopWord} : legalWord w = true ↔ ¬∃ why, decode w = .illegal why := by
  rw [decode_illegal_iff, legalWord, beq_reserved_eq_opFormat, contains_plain_eq_opFormat, contains_mask_eq_opFormat]
  simp only [Bool.not_eq_true', ← Bool.not_eq_true, Bool.or_eq_true, Bool.and_eq_true, decide_eq_true_eq, bne_iff_ne,
    or_assoc, opField, argField]

end Sys2Proof

namespace Sys2Proof.Machine

/-! ### Every micro-op -/

/-- Settles O8: the micro-op has a next state, and the next state of a micro-op keeps the five fields. -/
theorem everyMicroOpCompletes : Obligations.EveryMicroOpCompletes := by
  unfold Obligations.EveryMicroOpCompletes
  intro i s
  obtain ⟨t, ht⟩ := exec_exists_next i s
  have hframe := exec_sameOutsideMicroOps ht
  exact ⟨t, ht, hframe.schedule, hframe.params, hframe.uprog, hframe.seqFault, hframe.pinPrev⟩

theorem State.ChangesOnlyDriver.freq {s t : State} (h : s.ChangesOnlyDriver t) : t.freq = s.freq := by
  rw [State.ChangesOnlyDriver] at h
  rw [h]

/-- `INH` and `ENA` are the only micro-ops that write the inhibit. -/
theorem exec_sameInh {i : Instr} {s t : State} (h : exec i s = .next t) (hinh : i ≠ .inh) (hena : i ≠ .ena) :
    t.inh = s.inh := by
  cases i with
  | inh => exact absurd rfl hinh
  | ena => exact absurd rfl hena
  | dwr => exact (execDwr_changesOnlyDriver h).sameCapture.inh
  | waitc => obtain rfl | rfl := execWaitc_cases h <;> rfl
  | _ => cases h; rfl

/-- `EST` and `LDF` are the only micro-ops that write `FREQ`. -/
theorem exec_sameFreq {i : Instr} {s t : State} (h : exec i s = .next t) (hest : i ≠ .est) (hldf : ∀ n, i ≠ .ldf n) :
    t.freq = s.freq := by
  cases i with
  | est => exact absurd rfl hest
  | ldf n => exact absurd rfl (hldf n)
  | dwr => exact (execDwr_changesOnlyDriver h).freq
  | waitc => obtain rfl | rfl := execWaitc_cases h <;> rfl
  | _ => cases h; rfl

/-! ### An illegal word -/

theorem State.outputs_cstate_of_seqFault {s : State} (h : s.seqFault = true) : s.outputs.cstate = 3 := by
  rw [State.outputs, State.cstate_code_eq, if_pos h]

/-- Settles O5: the sequencer's turn raises the flag, which the status port shows before all else and which leaves the
sequencer stuck. -/
theorem illegalWordRaisesSeqFault : Obligations.IllegalWordRaisesSeqFault := by
  unfold Obligations.IllegalWordRaisesSeqFault
  intro s why hw hturn hclear hword
  have hstep : step s = .next s.takeTurn.raiseSeqFault := by
    rw [step_of_seq_turn hw hturn]
    exact seqStep_of_illegal hclear hword
  refine ⟨_, hstep, rfl, State.outputs_cstate_of_seqFault rfl, rfl, fun hnext => ?_⟩
  rw [step_of_seq_turn (s := s.takeTurn.raiseSeqFault) hw hnext]
  exact seqStep_of_seqFault rfl

/-! ### All that a step can do to the sequencer's registers -/

theorem State.applyReset_sameSequencer (s : State) (pulseIn : Level) :
    State.reset.SameSequencer (s.applyReset pulseIn) :=
  ⟨rfl, rfl, rfl, rfl, rfl, rfl, rfl, rfl⟩

/-- What one step can have done to `SEQ_FAULT`, `UPC`, `INH`, `FREQ` and the sequencer's other registers: each change
with its cause (R221, R226, R227). -/
inductive SequencerMoves (s t : State) : Prop where
  /-- RESET, by whatever form. -/
  | reset (cause : s.resetsNext = true) (effect : State.reset.SameSequencer t)
  /-- 45_control_sequencer.md R190. -/
  | runs (i : Instr) (cause : s.nextOp = some i) (effect : exec i s.takeTurn = .next t)
  /-- R221. -/
  | raises (cause : ∃ why, decode s.fetch = .illegal why) (effect : t = s.takeTurn.raiseSeqFault)
  /-- The events, and a sample outside reset. -/
  | keep (effect : s.takeTurn.SameSequencer t)

/-- Agent by agent, all that a step can do to the sequencer's registers. -/
theorem step_sequencer_moves {s t : State} (h : step s = .next t) : SequencerMoves s t := by
  obtain ⟨-, ⟨hturn, hclear, i, hdec, hexec⟩ | ⟨-, -, hillegal, rfl⟩ | ⟨hturn, -⟩ | ⟨hturn, -⟩ | ⟨hturn, -⟩
    | ⟨l, hturn, rfl⟩ | ⟨p, hturn, rfl⟩⟩ := step_next_cases h
  · exact .runs i (State.nextOp_eq_some.mpr ⟨hturn, hclear, hdec⟩) hexec
  · exact .raises hillegal rfl
  · exact .keep (event_step_changesOnlyShared h (.inl hturn)).sameSequencer
  · exact .keep (event_step_changesOnlyShared h (.inr (.inl hturn))).sameSequencer
  · exact .keep (event_step_changesOnlyShared h (.inr (.inr hturn))).sameSequencer
  · exact .reset (State.resetsNext_of_reset hturn) (State.applyReset_sameSequencer ..)
  · by_cases hrst : p.rstN = true
    · exact .keep (State.samplePorts_sameSequencer hrst)
    · rw [State.samplePorts_of_not_rstN hrst]
      exact .reset (by simp [State.resetsNext_of_sample hturn, hrst]) (State.applyReset_sameSequencer ..)

/-- Settles O60: a step that is not RESET and writes one of the three registers runs a micro-op that writes it. -/
theorem upcInhAndFreqHaveTheirWriters : Obligations.UpcInhAndFreqHaveTheirWriters := by
  unfold Obligations.UpcInhAndFreqHaveTheirWriters
  intro s t h hreset
  cases step_sequencer_moves h with
  | reset cause _ => simp [hreset] at cause
  | runs i cause effect =>
    obtain ⟨hturn, -, -⟩ := State.nextOp_eq_some.mp cause
    simp only [cause, ne_eq, Option.some_inj]
    exact ⟨fun hother => absurd hturn hother, exec_sameInh (s := s.takeTurn) effect,
      exec_sameFreq (s := s.takeTurn) effect⟩
  | raises _ effect =>
    subst effect
    exact ⟨fun _ => rfl, fun _ _ => rfl, fun _ _ => rfl⟩
  | keep effect =>
    obtain ⟨-, hupc, hinh, hfreq, -⟩ := effect
    exact ⟨fun _ => hupc, fun _ _ => hinh, fun _ _ => hfreq⟩

/-! ### A legal micro-program -/

/-- 00_scope.md R10 (e): the word at `UPC`, whatever `UPC` holds, is one of the micro-program's. -/
theorem State.ProgramLegal.fetch_not_illegal {s : State} (h : s.ProgramLegal) :
    ¬∃ why, decode s.fetch = .illegal why := by
  have hall : ∀ w ∈ s.uprog.toList, legalWord w = true := List.all_eq_true.mp h
  have hmem : s.fetch ∈ s.uprog.toList := Vector.mem_toList_iff.mpr (Vector.getElem_mem s.upc.isLt)
  exact legalWord_iff.mp (hall _ hmem)

/-- R221: only an illegal word raises SeqFault, and a legal micro-program holds none. -/
theorem step_keeps_seqFault_clear {s t : State} (h : step s = .next t) (hclear : s.seqFault = false)
    (hlegal : s.ProgramLegal) : t.seqFault = false := by
  cases step_sequencer_moves h with
  | reset _ effect =>
    obtain ⟨hflag, -⟩ := effect
    exact hflag
  | runs i _ effect => exact (exec_sameOutsideMicroOps effect).seqFault.trans hclear
  | raises cause _ => exact absurd cause hlegal.fetch_not_illegal
  | keep effect =>
    obtain ⟨hflag, -⟩ := effect
    exact hflag.trans hclear

/-- Settles O57: the build stays, so the configuration keeps its meaning and the micro-program its legal words; with
those no step raises SeqFault; and every step keeps the DAC driver at rest. -/
theorem legalProgramStaysSafe : Obligations.LegalProgramStaysSafe := by
  unfold Obligations.LegalProgramStaysSafe
  rintro s t ⟨hw, hclear, hrest⟩ hlegal h
  obtain ⟨huprog, hparams⟩ := stepKeepsRomsAndParameters s t h
  refine ⟨⟨?config, step_keeps_seqFault_clear h hclear hlegal, stepKeepsDacAtRest s t hrest h⟩, ?program⟩
  case config => rw [hparams, hw]
  case program => rw [State.ProgramLegal, huprog, hlegal]

/-! ### A full cycle of the clocked reference -/

/-- A run whose first step is the turn that the schedule begins with. -/
theorem run_succ_of_schedule {k : Nat} {s u t : State} {turn : Turn} {rest : List Turn}
    (hw : s.params.wellFormed = true) (hsched : s.schedule = turn :: rest)
    (hturn : turnStep turn { s with schedule := rest } = .next u) (h : Run k u t) : Run (k + 1) s t :=
  run_succ.mpr ⟨u, (step_of_schedule hw hsched).trans hturn, h⟩

/-- The three events of a cycle, in the order of R228, each seeing the state the one before left. -/
theorem run_edge_tickM_tickC {k : Nat} {s t : State} {rest : List Turn} (hw : s.params.wellFormed = true)
    (hinh : s.inh = false) (hsched : s.schedule = .edge :: .tickM :: .tickC :: rest)
    (h : Run k ({ s with schedule := rest } : State).captureEdge.tickM.tickC t) : Run (k + 3) s t := by
  have hedge : turnStep .edge { s with schedule := .tickM :: .tickC :: rest }
      = .next ({ s with schedule := .tickM :: .tickC :: rest } : State).captureEdge :=
    congrArg Host.Outcome.next (State.edge_of_not_inh hinh)
  have hcadence : Run (k + 1) ({ s with schedule := .tickC :: rest } : State).captureEdge.tickM t :=
    run_succ_of_schedule (turn := .tickC) hw rfl rfl h
  have hmeasurement : Run (k + 2) ({ s with schedule := .tickM :: .tickC :: rest } : State).captureEdge t :=
    run_succ_of_schedule (turn := .tickM) hw rfl rfl hcadence
  exact run_succ_of_schedule hw hsched hedge hmeasurement

/-- The edge takes the snapshot of the timer before the tick, and the timer that ticks is the one the edge left. -/
theorem State.captureEdge_tickM_tickC (s : State) : s.captureEdge.tickM.tickC = { s with
    snapOvf := s.mt.ovf
    snapTicks := s.mt.cnt
    pulseCount := satInc s.pulseCount
    mt := ({ s.mt with run := s.mt.run || s.pulseCount == 0 } : Timer).tick
    ct := s.ct.tick } := by
  rw [State.captureEdge_eq, ← satInc_eq_ite]
  rfl

/-- A sample with every port high after a low pulse input schedules the whole cycle before the rest. -/
theorem State.samplePorts_full_cycle {s : State} (hpol : s.params.pol = .rising) (hprev : s.pinPrev = false)
    (hclear : s.seqFault = false) :
    s.samplePorts { rstN := true, pulseIn := true, tickM := true, tickC := true, seqDone := true } = { s with
      pinPrev := true
      schedule := .edge :: .tickM :: .tickC :: .seq :: s.schedule } := by
  simp [State.samplePorts_of_rstN, State.cycleTurns_eq, hpol, hprev, hclear]

/-- The sample schedules the cycle, the three events run in their order, and the sequencer's step is the fifth; none of
the four steps before it writes `UPC`, the ROM or `SEQ_FAULT`. -/
theorem run_full_cycle {s t : State} {i : Instr} {rest : List Turn} (hw : s.params.wellFormed = true)
    (hpol : s.params.pol = .rising) (hprev : s.pinPrev = false) (hinh : s.inh = false) (hclear : s.seqFault = false)
    (hword : decode s.fetch = .instr i)
    (hsched : s.schedule =
      .sample { rstN := true, pulseIn := true, tickM := true, tickC := true, seqDone := true } :: rest)
    (hexec : exec i ({ s with pinPrev := true, schedule := rest } : State).captureEdge.tickM.tickC = .next t) :
    Run 5 s t := by
  have hsample : turnStep (.sample ⟨true, true, true, true, true⟩) { s with schedule := rest }
      = .next { s with pinPrev := true, schedule := .edge :: .tickM :: .tickC :: .seq :: rest } :=
    congrArg Host.Outcome.next (State.samplePorts_full_cycle (s := { s with schedule := rest }) hpol hprev hclear)
  have hseq : turnStep .seq ({ s with pinPrev := true, schedule := rest } : State).captureEdge.tickM.tickC = .next t :=
    (seqStep_of_instr (s := ({ s with pinPrev := true, schedule := rest } : State).captureEdge.tickM.tickC)
      hclear hword).trans hexec
  have hop : Run 1 ({ s with pinPrev := true, schedule := .seq :: rest } : State).captureEdge.tickM.tickC t :=
    run_succ_of_schedule hw rfl hseq (run_zero.mpr rfl)
  have hevents : Run 4 { s with pinPrev := true, schedule := .edge :: .tickM :: .tickC :: .seq :: rest } t :=
    run_edge_tickM_tickC hw hinh rfl hop
  exact run_succ_of_schedule hw hsched hsample hevents

/-- Settles O27: the five steps run the micro-op on the state that the three events leave, and that state is the one
stated. -/
theorem cycleRunsEdgeTicksThenMicroOp : Obligations.CycleRunsEdgeTicksThenMicroOp := by
  unfold Obligations.CycleRunsEdgeTicksThenMicroOp
  intro s i rest hw hpol hprev hinh hclear hword hsched
  obtain ⟨t, hexec⟩ :=
    exec_exists_next i ({ s with pinPrev := true, schedule := rest } : State).captureEdge.tickM.tickC
  have hrun : Run 5 s t := run_full_cycle hw hpol hprev hinh hclear hword hsched hexec
  rw [State.captureEdge_tickM_tickC] at hexec
  exact hrun.trans hexec.symm

end Sys2Proof.Machine

/-! Reset and hazards (70_reset_and_hazards.md): the state that RESET leaves, field by field, and the two turns that are
RESET. -/

namespace Sys2Proof.Machine

/-! ### The RESET step -/

/-- The reset values of 10_state.md R40, with what RESET takes from the pin and from the state before it. -/
theorem State.applyReset_eq (s : State) (pulseIn : Level) : s.applyReset pulseIn = {
    mt := { cnt := 0, ovf := 0, run := false }, ct := { cnt := 0, ovf := 0, run := false }
    pulseCount := 0, snapOvf := 0, snapTicks := 0, inh := true, freq := 0, din := 0
    lines := { dclk := false, ddata := false, dload := true }, dacOut := 0, sr := 0, bitCnt := 0, upc := 0
    seqFault := false, pinPrev := pulseIn, trace := []
    uprog := s.uprog, params := s.params, schedule := s.schedule } := rfl

/-- A sample with `rst_n` = 0 is RESET at its pin's level: its other ports are not read. -/
theorem turnStep_sample_of_not_rstN {s : State} {p : PortSample} (h : ¬p.rstN = true) :
    turnStep (.sample p) s = turnStep (.reset p.pulseIn) s :=
  congrArg Host.Outcome.next (State.samplePorts_of_not_rstN h)

/-- Settles O54: either turn is the RESET step, which reads nothing of the registers. -/
theorem resetStepSetsEveryRegister : Obligations.ResetStepSetsEveryRegister := by
  unfold Obligations.ResetStepSetsEveryRegister
  intro s turn pulseIn rest hw hsched hturn
  have hreset : turnStep turn { s with schedule := rest } = turnStep (.reset pulseIn) { s with schedule := rest } := by
    obtain rfl | ⟨tickM, tickC, seqDone, rfl⟩ := hturn
    · rfl
    · exact turnStep_sample_of_not_rstN Bool.false_ne_true
  rw [step_of_schedule hw hsched, hreset, turnStep, State.applyReset_eq]

end Sys2Proof.Machine
